-- ==== Sys2Proof/Syntax.lean ====
section
/-! DEFINITION. The commands of the unit: one constructor per row of spec/opcode_table.json
(spec/30_encoding.md rule R301). A command word carries no operand (R303), so no constructor has an
argument. -/

namespace Sys2Proof

/-- The thirteen commands of the opcode map (R301). -/
inductive Instr where
  | nop
  | montmul
  | modexp
  | kaGenerate
  | kaAdopt
  | kaDerive
  | kaShare
  | kaParams
  | kaClear
  | bfKeysched
  | bfEncrypt
  | bfDecrypt
  | bfClear
deriving DecidableEq, Repr

end Sys2Proof
end

