-- ==== Sys2Proof/Word.lean ====
section
/-! DEFINITION. The word types of the unit: bytes of the buffer and of the key registers, 32-bit bus
words and Blowfish words, 64-bit operands (spec/00_scope.md rules R12, R13, R14). -/

namespace Sys2Proof

/-- A byte of `BUF` or of the key registers. -/
abbrev Byte := BitVec 8

/-- A 32-bit word: one host bus transfer, one command, one Blowfish word. -/
abbrev Word := BitVec 32

/-- A 64-bit value: an operand, a result or a key-agreement register (parameter `K = 64` of R10). -/
abbrev DWord := BitVec 64

end Sys2Proof
end

