-- ==== Sys2Proof/Decode.lean ====
section
/-! DEFINITION. Decoding and encoding of command words (spec/30_encoding.md rules R300 to R302,
R308). Decoding is total: a word is one command, or it is rejected by name. -/

namespace Sys2Proof

/-- Why bits are no legal command (R302). -/
inductive DecodeError where
  /-- The bytes are not the four of one 32-bit word, the only length there is (R300). -/
  | notOneWord
  /-- The field `RSV`, bits `[31:8]`, is not zero. -/
  | reservedBits
  /-- `OPC` is none of the thirteen values of the opcode map. -/
  | reservedOpcode
deriving DecidableEq, Repr

/-- `OPC`, bits `[7:0]` of a command word (R300). -/
def opcField (w : Word) : Byte := w.extractLsb' 0 8

/-- `RSV`, bits `[31:8]` of a command word (R300). -/
def rsvField (w : Word) : BitVec 24 := w.extractLsb' 8 24

/-- The opcode map (R301). -/
def opcodeMap (opc : Nat) : Option Instr :=
  match opc with
  | 0x00 => some .nop
  | 0x01 => some .montmul
  | 0x02 => some .modexp
  | 0x10 => some .kaGenerate
  | 0x11 => some .kaAdopt
  | 0x12 => some .kaDerive
  | 0x13 => some .kaShare
  | 0x14 => some .kaParams
  | 0x15 => some .kaClear
  | 0x20 => some .bfKeysched
  | 0x21 => some .bfEncrypt
  | 0x22 => some .bfDecrypt
  | 0x23 => some .bfClear
  | _ => none

/-- Decoding of a command word (R302): `RSV` must be zero and `OPC` must be in the map. -/
def decode (w : Word) : Except DecodeError Instr :=
  if rsvField w = 0 then
    match opcodeMap (opcField w).toNat with
    | some i => .ok i
    | none => .error .reservedOpcode
  else .error .reservedBits

/-- The four bytes of a word in bus order: little-endian (spec/20_memory.md rule R202). -/
def wordBytes (w : Word) : List Byte :=
  [w.extractLsb' 0 8, w.extractLsb' 8 8, w.extractLsb' 16 8, w.extractLsb' 24 8]

/-- Decoding of bytes as the bus carries them: exactly one 32-bit word (R300, R308), little-endian. -/
def decodeBytes : List Byte → Except DecodeError Instr
  | [b0, b1, b2, b3] => decode (b3 ++ b2 ++ b1 ++ b0)
  | _ => .error .notOneWord

/-- The word of each command (R301). -/
def encode : Instr → Word
  | .nop => 0x00000000#32
  | .montmul => 0x00000001#32
  | .modexp => 0x00000002#32
  | .kaGenerate => 0x00000010#32
  | .kaAdopt => 0x00000011#32
  | .kaDerive => 0x00000012#32
  | .kaShare => 0x00000013#32
  | .kaParams => 0x00000014#32
  | .kaClear => 0x00000015#32
  | .bfKeysched => 0x00000020#32
  | .bfEncrypt => 0x00000021#32
  | .bfDecrypt => 0x00000022#32
  | .bfClear => 0x00000023#32

/-- The word that `nbits` bits of a table row stand for; the bits above them are zero. -/
def tableWord (nbits w : Nat) : Word := BitVec.ofNat 32 (w % 2 ^ nbits)

/-- The instruction the decoder reads from a row of the opcode table: the row's word is laid out in
bus order and decoded. -/
def decodeTableWord (nbits w : Nat) : Option Instr :=
  match decodeBytes (wordBytes (tableWord nbits w)) with
  | .ok i => some i
  | .error _ => none

end Sys2Proof
end

