-- ==== Sys2Proof/Config.lean ====
section
/-! DEFINITION. What the implementation fixes (spec/00_scope.md rule R10) and the values the spec
leaves open. An open value is an opaque constant with no body: nothing proves anything about it, so
a claim about the model holds for every choice of it. -/

namespace Sys2Proof.Config

/-- `BUF_BYTES` (R10): the size of the data buffer in bytes. -/
abbrev bufBytes : Nat := 1024

/-- `KEY_MIN` (R10). -/
abbrev keyMin : Nat := 1

/-- `KEY_MAX` (R10). -/
abbrev keyMax : Nat := 56

/-- The window's size in bytes (R10, R200). -/
abbrev windowBytes : Nat := 0x800

/-- The offset at which the buffer begins; the registers lie below it (R200). -/
abbrev bufOffset : Nat := 0x400

/-- The Montgomery radix `R = 2^64` (R10). -/
abbrev radix : Nat := 2 ^ 64

/-- `millerRabinRounds` (R10), which `CFG_MR_ROUNDS` reports (R113). -/
abbrev millerRabinRounds : Nat := 12

/-- How many draws the engine takes in one turn of a command that samples. The spec gives no time (R716),
so this only sets how finely `State.inputs` can order draws and accesses, and no access sees a draw. -/
def drawsPerTurn : Nat := 1024

/-- `RngState` (R10, R451) is an open type. Any state type that a machine can hold has a coding in
the natural numbers, so the model takes them. -/
abbrev RngState := Nat

/-- An entropy source's next-draw function, the type of `RNG_NEXT` (R451). -/
abbrev Source := RngState → DWord × RngState

/-- `RNG_INIT` (R451), open: the state that a 64-bit seed gives. -/
opaque rngInit : DWord → RngState

/-- `RNG_NEXT` (R451), open: one draw and the state after it. -/
opaque rngNext : Source

/-- `RNG_STATE` after the `n`-th reset: a free draw (R123, R700; U8). The argument is the count of
resets, because two resets need not give the same state (R703). -/
opaque rngAtReset : Nat → RngState

/-- `bufAtReset n i` is `BUF[i]` after the `n`-th reset: each byte a free draw (R118, R700; U4). -/
opaque bufAtReset : Nat → Nat → Byte

/-- The `n`-th unspecified value that a host read returns: a bad read (R207; U5), or a `BUF` read
while `BF_ENCRYPT` or `BF_DECRYPT` is pending (R211; U6). -/
opaque freeRead : Nat → Word

/-- `BASE / 0x800`, open: the platform places the window (R201). -/
opaque baseIndex : Nat

/-- `BASE` (R201): open, but a multiple of `0x800`. -/
def base : Nat := baseIndex * windowBytes

/-- The window offset of a bus address: the address less `BASE`. The model names every access by
this offset, as the spec's host script does (R309). -/
def offsetOf (address : Nat) : Int := (address : Int) - (base : Int)

end Sys2Proof.Config
end

