-- ==== Sys2Proof/Machine/State.lean ====
section
/-! DEFINITION. The machine's state as plain data, the reasons a step can stop, and the state after
reset (spec/10_state.md, spec/70_reset_and_hazards.md rule R700). -/

namespace Sys2Proof.Machine

/-- The completion codes of spec/60_exceptions.md rule R601. No other value ever appears in
`ERRCODE`, so the register holds one of these. -/
inductive ErrorCode where
  | ok
  | invalidParameters
  | notInitialized
  | invalidPeerShare
  | invalidKey
  | invalidBlockSize
  | cipherFailure
  | illegalCommand
  | invalidConfig
  | operandRange
  | lengthRange
deriving DecidableEq, Repr

/-- `KA_STATE` (R120). -/
inductive KaState where
  | empty
  | ready
deriving DecidableEq, Repr

/-- The width of a host access (R205, R206). -/
inductive Width where
  | w8
  | w16
  | w32
deriving DecidableEq, Repr

/-- One host bus access. `off` is the address less `BASE` (R201, R309); a write's value is in the low
bits of `v`, as many as the width has. -/
inductive Access where
  | read (off : Int) (w : Width)
  | write (off : Int) (w : Width) (v : Word)
deriving DecidableEq, Repr

/-- What happens next at the unit: a host access, a turn of the engine, or a reset by the platform
(R100, R701). Their order is open: any list of them may stand in `State.inputs` (U1, R716). -/
inductive Input where
  | access (a : Access)
  | engine
  | reset
deriving DecidableEq, Repr

/-- What the unit last drove on the bus. -/
inductive Response where
  /-- No access has happened since reset. -/
  | idle
  /-- The data of a good read. -/
  | data (w : Width) (v : Word)
  /-- A good write was taken (it may have been dropped, which only `STATUS.OVR` tells: R710). -/
  | written
  /-- The bus error response to a bad access, with the data of a bad read (R207). -/
  | busError (v : Option Word)
deriving DecidableEq, Repr

/-- The bytes of `BUF` that the host or a command has written since reset, as (index, byte) pairs:
indices strictly rising and below 1024. An unlisted index holds no written value, so no entry can
equal what an unlisted index holds; it reads as the free draw `Config.bufAtReset` (U4). -/
abbrev Memory := List Host.Cell

/-- `BF_P` (R122). -/
abbrev PArray := Vector Word 18

/-- `BF_S` (R122). -/
abbrev SBoxes := Vector (Vector Word 256) 4

/-- The state of the unit. The fields after `bfKeyed` are the model's own: the inputs to come, the
last bus response, and three counters. -/
structure State where
  /-- `CTRL.IE` (R103); the rest of `CTRL` is RAZ/WI. -/
  ie : Bool
  /-- `STATUS.DONE` (R106). -/
  done : Bool
  /-- `STATUS.OVR` (R106). -/
  ovr : Bool
  /-- `STATUS.ERRCODE` (R106, R601). -/
  errcode : ErrorCode
  /-- `STATUS.LASTOP` (R106). -/
  lastop : Byte
  /-- `PENDING` (R105): the accepted command word that is not yet completed. -/
  pending : Option Word
  /-- `OP0` (R104). -/
  op0 : DWord
  /-- `OP1` (R104). -/
  op1 : DWord
  /-- `OP2` (R104). -/
  op2 : DWord
  /-- `RES0` (R108). -/
  res0 : DWord
  /-- `RES1` (R108). -/
  res1 : DWord
  /-- `RES2` (R108). -/
  res2 : DWord
  /-- `RES_LEN[7:0]` (R109). -/
  resLen : Byte
  /-- `CFG_WP[6:0]` (R110). -/
  cfgWp : BitVec 7
  /-- `CFG_WG[6:0]` (R111). -/
  cfgWg : BitVec 7
  /-- `CFG_XMIN` (R112). -/
  cfgXmin : DWord
  /-- `CFG_XMAX` (R112). -/
  cfgXmax : DWord
  /-- The latch `SEED_LO` (R114). -/
  seedLo : Word
  /-- `RNG_STATE` (R123). -/
  rng : Config.RngState
  /-- `BF_KEYLEN[7:0]` (R115). -/
  bfKeylen : Byte
  /-- `BF_LEN` (R116). -/
  bfLen : Word
  /-- The key bytes `KEY[0 … 55]` (R117). -/
  key : Vector Byte 56
  /-- `BUF` (R118). -/
  buf : Memory
  /-- `KA_STATE` (R120). -/
  kaState : KaState
  /-- `KA_P` (R119). -/
  kaP : DWord
  /-- `KA_G` (R119). -/
  kaG : DWord
  /-- `KA_X` (R119). -/
  kaX : DWord
  /-- `KA_A` (R119). -/
  kaA : DWord
  /-- `KA_WP` (R119). -/
  kaWp : BitVec 7
  /-- `BF_P` (R122). -/
  bfP : PArray
  /-- `BF_S` (R122). -/
  bfS : SBoxes
  /-- `BF_KEYED` (R122). -/
  bfKeyed : Bool
  /-- The model's own: what happens next, the first element first. When it is empty the engine has
  the turn. -/
  inputs : List Input
  /-- The model's own: the unit's last answer on the bus. -/
  response : Response
  /-- The model's own: how many engine turns the pending command has spent drawing without ending. -/
  samplingTurns : Nat
  /-- The model's own: how many unspecified read values have been returned. -/
  freeReads : Nat
  /-- The model's own: how many resets have happened after the first. -/
  resets : Nat
deriving DecidableEq, Repr

/-- Why the machine stops with a fault. -/
inductive Fault where
  /-- Raised by `step` for a host access whose address is outside `[BASE, BASE + 0x800)`. The unit
  does not decode it and "what they do is the platform's business" (R201). Safe: the model stops
  where the platform goes on, and no state of the unit would have changed. -/
  | outsideWindow
deriving DecidableEq, Repr

/-- Why an instruction has no meaning. -/
inductive Refusal where
  /-- Raised by an arm of `exec` for an instruction that has no meaning yet; no arm is so now. Safe:
  the model stops. -/
  | notModelled (mnemonic : String)
deriving DecidableEq, Repr

/-- The machine right after reset, as the table of R700 gives it. `RNG_STATE` and the bytes of `BUF`
are free draws: `rng` is an opaque constant, and no byte of `BUF` is listed. -/
def State.reset : State where
  ie := false
  done := false
  ovr := false
  errcode := .ok
  lastop := 0
  pending := none
  op0 := 0
  op1 := 0
  op2 := 0
  res0 := 0
  res1 := 0
  res2 := 0
  resLen := 0
  cfgWp := 63
  cfgWg := 3
  cfgXmin := 1
  cfgXmax := 10
  seedLo := 0
  rng := Config.rngAtReset 0
  bfKeylen := 0
  bfLen := 0
  key := Vector.replicate 56 0
  buf := []
  kaState := .empty
  kaP := 0
  kaG := 0
  kaX := 0
  kaA := 0
  kaWp := 0
  bfP := Vector.replicate 18 0
  bfS := Vector.replicate 4 (Vector.replicate 256 0)
  bfKeyed := false
  inputs := []
  response := .idle
  samplingTurns := 0
  freeReads := 0
  resets := 0

end Sys2Proof.Machine
end

