-- ==== Sys2Proof/Machine/Ops.lean ====
section
/-! DEFINITION. The named operations over the state: the bytes of `BUF`, the halves of a 64-bit
register, the acceptance of a command, its completion (the one shared operation for every end of a
command, errors included: the unit has no trap entry and no return, R613, R614), and reset. -/

namespace Sys2Proof.Machine

/-! ## The buffer's memory -/

/-- The byte written at an index since reset, if any. -/
def Memory.read? : Memory → Nat → Option Byte
  | [], _ => none
  | (k, v) :: m, a => if k = a then some v else Memory.read? m a

/-- Write one byte, keeping the indices strictly rising. -/
def Memory.write : Memory → Nat → Byte → Memory
  | [], a, v => [(a, v)]
  | (k, x) :: m, a, v =>
    if a < k then (a, v) :: (k, x) :: m
    else if a = k then (a, v) :: m
    else (k, x) :: Memory.write m a v

/-- The canonical form: indices strictly rising, each below `BUF_BYTES`. -/
def Memory.wf (m : Memory) : Bool :=
  decide (m.Pairwise fun x y => x.1 < y.1) && m.all fun x => decide (x.1 < Config.bufBytes)

/-- The byte that index `i` reads as (R118): the one written, or the free draw of the `n`-th reset
where nothing has been written since (U4). -/
def Memory.byte (m : Memory) (n i : Nat) : Byte := (m.read? i).getD (Config.bufAtReset n i)

/-- The `count`-byte little-endian value at buffer offset `a` (R15). -/
def Memory.readLE (m : Memory) (n a : Nat) : Nat → Nat
  | 0 => 0
  | count + 1 => (m.byte n a).toNat + 2 ^ 8 * m.readLE n (a + 1) count

/-- Write the `count` low bytes of `v`, lowest first, from buffer offset `a` on (R15). -/
def Memory.writeLE (m : Memory) (a count v : Nat) : Memory :=
  match count with
  | 0 => m
  | count + 1 => Memory.writeLE (m.write a (BitVec.ofNat 8 v)) (a + 1) count (v / 2 ^ 8)

/-- The block at buffer offset `o`: two big-endian halves `(L, R)` (R506, R204). -/
def Memory.readBlock (m : Memory) (n o : Nat) : Word × Word :=
  (m.byte n o ++ m.byte n (o + 1) ++ m.byte n (o + 2) ++ m.byte n (o + 3),
   m.byte n (o + 4) ++ m.byte n (o + 5) ++ m.byte n (o + 6) ++ m.byte n (o + 7))

/-- Write a 32-bit half at buffer offset `o`, most significant byte first (R506). -/
def Memory.writeHalf (m : Memory) (o : Nat) (x : Word) : Memory :=
  (((m.write o (x.extractLsb' 24 8)).write (o + 1) (x.extractLsb' 16 8)).write (o + 2)
    (x.extractLsb' 8 8)).write (o + 3) (x.extractLsb' 0 8)

/-- Write back a block at buffer offset `o` (R506). -/
def Memory.writeBlock (m : Memory) (o : Nat) (b : Word × Word) : Memory :=
  (m.writeHalf o b.1).writeHalf (o + 4) b.2

/-- Transform `count` blocks in place, each alone, from block `k` on (R507). -/
def Memory.mapBlocks (f : Word × Word → Word × Word) (n : Nat) (m : Memory) (k count : Nat) :
    Memory :=
  match count with
  | 0 => m
  | count + 1 =>
    Memory.mapBlocks f n (m.writeBlock (8 * k) (f (m.readBlock n (8 * k)))) (k + 1) count

/-- `BUF[i]` (R118). -/
def State.bufByte (s : State) (i : Nat) : Byte := s.buf.byte s.resets i

/-- `MemRead(a, n)` (R15). -/
def State.memRead (s : State) (a n : Nat) : Nat := s.buf.readLE s.resets a n

/-- `MemWrite(a, n, v)` (R15). -/
def State.memWrite (s : State) (a n v : Nat) : State := { s with buf := s.buf.writeLE a n v }

/-- Transform the blocks `0` to `count − 1` of `BUF` in place (R507). -/
def State.mapBlocks (s : State) (f : Word × Word → Word × Word) (count : Nat) : State :=
  { s with buf := s.buf.mapBlocks f s.resets 0 count }

/-! ## The halves of a 64-bit register (R104, R203) -/

/-- The `_LO` half: bits `[31:0]`. -/
def loHalf (x : DWord) : Word := x.extractLsb' 0 32

/-- The `_HI` half: bits `[63:32]`. -/
def hiHalf (x : DWord) : Word := x.extractLsb' 32 32

/-- Write the `_LO` half. -/
def setLo (x : DWord) (v : Word) : DWord := hiHalf x ++ v

/-- Write the `_HI` half. -/
def setHi (x : DWord) (v : Word) : DWord := v ++ loHalf x

/-! ## Acceptance and completion -/

/-- Acceptance of the command word `w` (R305), legal or not, as one event. -/
def State.accept (s : State) (w : Word) : State :=
  { s with pending := some w, done := false, errcode := .ok, lastop := opcField w,
           samplingTurns := 0 }

/-- Completion with code `c` (R600): the one event that ends a command. -/
def State.complete (s : State) (c : ErrorCode) : State :=
  { s with pending := none, errcode := c, done := true, samplingTurns := 0 }

/-- How a turn of the engine leaves a command's rule. -/
inductive CommandResult where
  /-- `raise e` (R17): the command ends with code `e`. -/
  | raise (e : ErrorCode)
  /-- `complete()` (R17): the command ends with `OK`, and its writes have made this state. -/
  | complete (s : State)
  /-- The draws taken so far give no prime candidate or no exponent yet (R454, R455, R458). -/
  | drawing

/-- The end of an engine turn. A `raise` undoes nothing because it writes nothing: the state is the
one before the command but for the completion fields (R17, R602). While the draws go on there is no
completion step (R458): the command stays pending and nothing of the unit changes. -/
def State.finish (s : State) : CommandResult → State
  | .raise e => s.complete e
  | .complete s' => s'.complete .ok
  | .drawing => { s with samplingTurns := s.samplingTurns + 1 }

/-! ## Reset -/

/-- Reset by the platform (R700 to R702): the same whatever the state before it; a pending command is
abandoned. `RNG_STATE` and `BUF` get fresh free draws (R703). The inputs to come are the platform's
and stay. -/
def State.resetUnit (s : State) : State :=
  { State.reset with
    rng := Config.rngAtReset (s.resets + 1)
    inputs := s.inputs
    freeReads := s.freeReads
    resets := s.resets + 1 }

end Sys2Proof.Machine
end

