-- ==== Sys2Proof/Machine/Flags.lean ====
section
/-! DEFINITION. The flags: the fields of `STATUS` (spec/10_state.md rules R106, R125), the codes of
`ERRCODE` and the interrupt output (spec/60_exceptions.md rules R601, R610). -/

namespace Sys2Proof.Machine

/-- The value of a completion code in `ERRCODE` (R601). -/
def ErrorCode.toByte : ErrorCode → Byte
  | .ok => 0x00#8
  | .invalidParameters => 0x01#8
  | .notInitialized => 0x02#8
  | .invalidPeerShare => 0x03#8
  | .invalidKey => 0x04#8
  | .invalidBlockSize => 0x05#8
  | .cipherFailure => 0x06#8
  | .illegalCommand => 0x10#8
  | .invalidConfig => 0x11#8
  | .operandRange => 0x12#8
  | .lengthRange => 0x13#8

/-- `STATUS.BUSY`: 1 exactly when a command is pending (R106). -/
def State.busy (s : State) : Bool := s.pending.isSome

/-- `STATUS.ERR`: 1 exactly when `ERRCODE ≠ 0` (R106). -/
def State.err (s : State) : Bool := decide (s.errcode.toByte ≠ 0)

/-- `STATUS.KA_READY`: 1 exactly when `KA_STATE = Ready` (R106, R120). -/
def State.kaReady (s : State) : Bool := decide (s.kaState = .ready)

/-- The `STATUS` register as the host reads it (R106), from bit 31 down. -/
def State.statusWord (s : State) : Word :=
  0#8 ++ s.lastop ++ s.errcode.toByte ++ 0#2 ++ BitVec.ofBool s.bfKeyed ++
    BitVec.ofBool s.kaReady ++ BitVec.ofBool s.ovr ++ BitVec.ofBool s.err ++
    BitVec.ofBool s.done ++ BitVec.ofBool s.busy

/-- A host write to `STATUS` (R106, R209): `DONE` (bit 1) and `OVR` (bit 3) clear where `v` has a 1;
every other bit is unaffected. -/
def State.writeStatus (s : State) (v : Word) : State :=
  { s with done := s.done && !v.getLsbD 1, ovr := s.ovr && !v.getLsbD 3 }

/-- A dropped write: it sets `OVR` and has no other effect (R710). -/
def State.dropWrite (s : State) : State := { s with ovr := true }

/-- The interrupt output `IRQ = CTRL.IE AND STATUS.DONE` (R610). -/
def State.irq (s : State) : Bool := s.ie && s.done

end Sys2Proof.Machine
end

