-- ==== Sys2Proof/Machine/Registers.lean ====
section
/-! DEFINITION. The register map and what a good 32-bit read or write of a register does
(spec/10_state.md §2, spec/20_memory.md rules R208, R209). -/

namespace Sys2Proof.Machine

/-- The half of a 64-bit pair that an offset names (R203). -/
inductive Half where
  | lo
  | hi
deriving DecidableEq, Repr

/-- The registers of the map of spec/10_state.md §2. -/
inductive Reg where
  | id
  | version
  | ctrl
  | status
  | cmd
  | op0 (h : Half)
  | op1 (h : Half)
  | op2 (h : Half)
  | res0 (h : Half)
  | res1 (h : Half)
  | res2 (h : Half)
  | resLen
  | cfgWp
  | cfgWg
  | cfgXmin (h : Half)
  | cfgXmax (h : Half)
  | cfgMrRounds
  | rngSeedLo
  | rngSeedHi
  | bfKeylen
  | bfLen
  | bfKey (j : Fin 14)
  /-- A reserved offset: RAZ/WI (R124). -/
  | reserved
deriving DecidableEq, Repr

/-- The register at an offset of the register space that is a multiple of 4. -/
def regAt (off : Nat) : Reg :=
  match off with
  | 0x000 => .id
  | 0x004 => .version
  | 0x008 => .ctrl
  | 0x00C => .status
  | 0x010 => .cmd
  | 0x020 => .op0 .lo
  | 0x024 => .op0 .hi
  | 0x028 => .op1 .lo
  | 0x02C => .op1 .hi
  | 0x030 => .op2 .lo
  | 0x034 => .op2 .hi
  | 0x040 => .res0 .lo
  | 0x044 => .res0 .hi
  | 0x048 => .res1 .lo
  | 0x04C => .res1 .hi
  | 0x050 => .res2 .lo
  | 0x054 => .res2 .hi
  | 0x058 => .resLen
  | 0x060 => .cfgWp
  | 0x064 => .cfgWg
  | 0x068 => .cfgXmin .lo
  | 0x06C => .cfgXmin .hi
  | 0x070 => .cfgXmax .lo
  | 0x074 => .cfgXmax .hi
  | 0x078 => .cfgMrRounds
  | 0x080 => .rngSeedLo
  | 0x084 => .rngSeedHi
  | 0x090 => .bfKeylen
  | 0x094 => .bfLen
  | off => if h : 0x100 ≤ off ∧ off < 0x138 then .bfKey ⟨(off - 0x100) / 4, by omega⟩ else .reserved

/-- A half of a 64-bit register. -/
def readHalf (x : DWord) : Half → Word
  | .lo => loHalf x
  | .hi => hiHalf x

/-- Write a half of a 64-bit register. -/
def writeHalfOf (x : DWord) (v : Word) : Half → DWord
  | .lo => setLo x v
  | .hi => setHi x v

/-- The value of a good read of a register (R208): RW and RO registers give their value with
reserved bits 0, WO registers and reserved offsets give 0. -/
def State.readReg (s : State) : Reg → Word
  | .id => 0x4A580405#32
  | .version => 0x00000007#32
  | .ctrl => (BitVec.ofBool s.ie).setWidth 32
  | .status => s.statusWord
  | .cmd => 0
  | .op0 h => readHalf s.op0 h
  | .op1 h => readHalf s.op1 h
  | .op2 h => readHalf s.op2 h
  | .res0 h => readHalf s.res0 h
  | .res1 h => readHalf s.res1 h
  | .res2 h => readHalf s.res2 h
  | .resLen => s.resLen.setWidth 32
  | .cfgWp => s.cfgWp.setWidth 32
  | .cfgWg => s.cfgWg.setWidth 32
  | .cfgXmin h => readHalf s.cfgXmin h
  | .cfgXmax h => readHalf s.cfgXmax h
  | .cfgMrRounds => BitVec.ofNat 32 Config.millerRabinRounds
  | .rngSeedLo => 0
  | .rngSeedHi => 0
  | .bfKeylen => s.bfKeylen.setWidth 32
  | .bfLen => s.bfLen
  | .bfKey _ => 0
  | .reserved => 0

/-- The four key bytes that a write of `v` to `BF_KEYj` sets (R117): `KEY[4j]` from bits `[7:0]`. -/
def setKeyWord (key : Vector Byte 56) (j : Fin 14) (v : Word) : Vector Byte 56 :=
  (((key.set (4 * j.val) (v.extractLsb' 0 8)).set (4 * j.val + 1) (v.extractLsb' 8 8)).set
    (4 * j.val + 2) (v.extractLsb' 16 8)).set (4 * j.val + 3) (v.extractLsb' 24 8)

/-- What a good write of `v` to a register does when it is not dropped (R209). A RW register takes its
defined bits, a RO register and a reserved offset ignore the write, and `STATUS` and the WO registers
act as their rules say. -/
def State.writeReg (s : State) (v : Word) : Reg → State
  | .id => s
  | .version => s
  | .ctrl => { s with ie := v.getLsbD 0 }
  | .status => s.writeStatus v
  | .cmd => s.accept v
  | .op0 h => { s with op0 := writeHalfOf s.op0 v h }
  | .op1 h => { s with op1 := writeHalfOf s.op1 v h }
  | .op2 h => { s with op2 := writeHalfOf s.op2 v h }
  | .res0 _ => s
  | .res1 _ => s
  | .res2 _ => s
  | .resLen => s
  | .cfgWp => { s with cfgWp := v.setWidth 7 }
  | .cfgWg => { s with cfgWg := v.setWidth 7 }
  | .cfgXmin h => { s with cfgXmin := writeHalfOf s.cfgXmin v h }
  | .cfgXmax h => { s with cfgXmax := writeHalfOf s.cfgXmax v h }
  | .cfgMrRounds => s
  | .rngSeedLo => { s with seedLo := v }
  | .rngSeedHi => { s with rng := Config.rngInit (v ++ s.seedLo) }
  | .bfKeylen => { s with bfKeylen := v.setWidth 8 }
  | .bfLen => { s with bfLen := v }
  | .bfKey j => { s with key := setKeyWord s.key j v }
  | .reserved => s

/-- A write to this register is taken even while a command is pending (R710). -/
def Reg.alwaysWritable : Reg → Bool
  | .ctrl => true
  | .status => true
  | _ => false

end Sys2Proof.Machine
end

