-- ==== Sys2Proof/Machine/Bus.lean ====
section
/-! DEFINITION. Host accesses to the window (spec/20_memory.md rules R200 to R213,
spec/70_reset_and_hazards.md rule R710). -/

namespace Sys2Proof.Machine

/-- The width in bytes. -/
def Width.bytes : Width → Nat
  | .w8 => 1
  | .w16 => 2
  | .w32 => 4

/-- The value's low bits, as many as the width has, zero above them. -/
def Width.truncate (w : Width) (v : Word) : Word := BitVec.ofNat 32 (v.toNat % 2 ^ (8 * w.bytes))

/-- Not a bad access: in the register space 32 bits wide at a multiple of 4 (R205), in `BUF`
naturally aligned (R206). -/
def goodAccess (off : Nat) (w : Width) : Bool :=
  if off < Config.bufOffset then decide (w = .w32) && decide (off % 4 = 0)
  else decide (off % w.bytes = 0)

/-- `PENDING` is `BF_ENCRYPT` or `BF_DECRYPT` (R211). -/
def State.cipherPending (s : State) : Bool :=
  match s.pending with
  | none => false
  | some w => decide (decode w = .ok .bfEncrypt) || decide (decode w = .ok .bfDecrypt)

/-- An unspecified read value of the given width: the next free one (U5, U6). -/
def State.freeValue (s : State) (w : Width) : Word := w.truncate (Config.freeRead s.freeReads)

/-- A read at a window offset (R207, R208, R210, R211). It changes nothing of the unit: only the
answer on the bus and, where the value is unspecified, the model's count of free values. -/
def State.hostRead (s : State) (off : Nat) (w : Width) : State :=
  if goodAccess off w = false then
    { s with response := .busError (some (s.freeValue w)), freeReads := s.freeReads + 1 }
  else if off < Config.bufOffset then
    { s with response := .data w (s.readReg (regAt off)) }
  else if s.cipherPending = true then
    { s with response := .data w (s.freeValue w), freeReads := s.freeReads + 1 }
  else
    { s with response := .data w (BitVec.ofNat 32 (s.memRead (off - Config.bufOffset) w.bytes)) }

/-- A good write at a window offset (R209, R210): while a command is pending, a write to any offset
but `CTRL` and `STATUS` is dropped (R710). -/
def State.goodWrite (s : State) (off : Nat) (w : Width) (v : Word) : State :=
  if off < Config.bufOffset then
    if s.busy = true ∧ (regAt off).alwaysWritable = false then s.dropWrite
    else s.writeReg v (regAt off)
  else if s.busy = true then s.dropWrite
  else s.memWrite (off - Config.bufOffset) w.bytes v.toNat

/-- A write at a window offset: a bad one gets a bus error and changes no state of the unit (R207). -/
def State.hostWrite (s : State) (off : Nat) (w : Width) (v : Word) : State :=
  if goodAccess off w = false then { s with response := .busError none }
  else { s.goodWrite off w v with response := .written }

/-- The offset lies in the window (R200, R201). -/
def inWindow (off : Int) : Bool := decide (0 ≤ off) && decide (off < (Config.windowBytes : Int))

/-- One host access (R216). -/
def hostAccess (s : State) : Access → Host.Outcome State Fault Refusal
  | .read off w =>
    if inWindow off = true then .next (s.hostRead off.toNat w) else .fault .outsideWindow
  | .write off w v =>
    if inWindow off = true then .next (s.hostWrite off.toNat w v) else .fault .outsideWindow

end Sys2Proof.Machine
end

