-- ==== Sys2Proof/Machine/BlowfishCore.lean ====
section
/-! DEFINITION. The Blowfish cipher and its key schedule (spec/42_blowfish.md rules R501 to R505). -/

namespace Sys2Proof.Machine

/-- The round function `F(S, x)` (R501); `+` on words is `+32`. -/
def bfF (S : SBoxes) (x : Word) : Word :=
  ((S[0][(x.extractLsb' 24 8).toNat] + S[1][(x.extractLsb' 16 8).toNat]) ^^^
    S[2][(x.extractLsb' 8 8).toNat]) + S[3][(x.extractLsb' 0 8).toNat]

/-- One round with the subkey `k` (R502): mix in the subkey, mix `F` of the left half into the right
half, swap the halves. -/
def bfRound (S : SBoxes) (b : Word × Word) (k : Word) : Word × Word :=
  let l := b.1 ^^^ k
  (b.2 ^^^ bfF S l, l)

/-- The network (R502): a round for each subkey of `ks`, the last swap undone, then `kR` mixed into the
right half and `kL` into the left half. -/
def feistel (S : SBoxes) (ks : List Word) (kR kL : Word) (b : Word × Word) : Word × Word :=
  let r := ks.foldl (bfRound S) b
  (r.2 ^^^ kL, r.1 ^^^ kR)

/-- `EncBlock(P, S, L, R)` (R502): rounds with `P[0]` to `P[15]`, then `P[16]` and `P[17]`. -/
def encBlock (P : PArray) (S : SBoxes) (b : Word × Word) : Word × Word :=
  feistel S [P[0], P[1], P[2], P[3], P[4], P[5], P[6], P[7], P[8], P[9], P[10], P[11], P[12],
    P[13], P[14], P[15]] P[16] P[17] b

/-- `DecBlock(P, S, L, R)` (R503): rounds with `P[17]` down to `P[2]`, then `P[1]` and `P[0]`. -/
def decBlock (P : PArray) (S : SBoxes) (b : Word × Word) : Word × Word :=
  feistel S [P[17], P[16], P[15], P[14], P[13], P[12], P[11], P[10], P[9], P[8], P[7], P[6], P[5],
    P[4], P[3], P[2]] P[1] P[0] b

/-- Four key bytes from index `j` on, used cyclically modulo `n`, the first most significant, and the
index after them (R505). -/
def keyWord (key : Vector Byte 56) (n j : Nat) : Word × Nat :=
  (List.range 4).foldl
    (fun wj _ => (wj.1 * 256 + (key[wj.2]?.getD 0).setWidth 32, (wj.2 + 1) % n)) (0, j)

/-- The first loop of the key schedule (R505): the key is mixed into the P-array. -/
def mixKey (key : Vector Byte 56) (n : Nat) (P : PArray) : PArray :=
  ((List.finRange 18).foldl
    (fun (Pj : PArray × Nat) i =>
      let w := keyWord key n Pj.2
      (Pj.1.set i.val (Pj.1[i] ^^^ w.1), w.2)) (P, 0)).1

/-- The tables that the key schedule replaces in place, and the block that runs through it. -/
structure Expansion where
  P : PArray
  S : SBoxes
  b : Word × Word
deriving DecidableEq, Repr

/-- One step of the second loop of the key schedule (R505): `P[2i]` and `P[2i+1]` are replaced. -/
def expandP (x : Expansion) (i : Fin 9) : Expansion :=
  let b := encBlock x.P x.S x.b
  { x with P := (x.P.set (2 * i.val) b.1).set (2 * i.val + 1) b.2, b := b }

/-- One step of the third loop of the key schedule (R505): `S[t][2i]` and `S[t][2i+1]` are replaced. -/
def expandS (t : Fin 4) (x : Expansion) (i : Fin 128) : Expansion :=
  let b := encBlock x.P x.S x.b
  { x with S := x.S.set t.val ((x.S[t].set (2 * i.val) b.1).set (2 * i.val + 1) b.2), b := b }

/-- `KeySchedule(key, n)` (R505): 521 block encryptions, each with the entries replaced so far. -/
def keySchedule (key : Vector Byte 56) (n : Nat) : PArray × SBoxes :=
  let x := (List.finRange 9).foldl expandP ⟨mixKey key n pInit, sInit, (0, 0)⟩
  let y := (List.finRange 4).foldl (fun x t => (List.finRange 128).foldl (expandS t) x) x
  (y.P, y.S)

end Sys2Proof.Machine
end

