-- ==== Sys2Proof/Machine/Operands.lean ====
section
/-! DEFINITION. What each command reads: the operand map of spec/30_encoding.md rule R303. Every
operand is unsigned, and a narrower field is zero-extended (R304). -/

namespace Sys2Proof.Machine

/-- `OP0` as a number: `a` of `MONTMUL`, the base of `MODEXP`, `g` of `KA_ADOPT`, `B` of
`KA_DERIVE`. -/
abbrev State.op0Nat (s : State) : Nat := s.op0.toNat

/-- `OP1` as a number: `b` of `MONTMUL`, the exponent of `MODEXP`. -/
abbrev State.op1Nat (s : State) : Nat := s.op1.toNat

/-- `OP2` as a number: the modulus of `MONTMUL` and `MODEXP`, `p` of `KA_ADOPT`. -/
abbrev State.op2Nat (s : State) : Nat := s.op2.toNat

/-- `CFG_WP[6:0]`, the configured `W_p` (R110). -/
abbrev State.wp (s : State) : Nat := s.cfgWp.toNat

/-- `CFG_WG[6:0]`, the configured `W_g` (R111). -/
abbrev State.wg (s : State) : Nat := s.cfgWg.toNat

/-- `CFG_XMIN` (R112). -/
abbrev State.xmin (s : State) : Nat := s.cfgXmin.toNat

/-- `CFG_XMAX` (R112). -/
abbrev State.xmax (s : State) : Nat := s.cfgXmax.toNat

/-- `BF_KEYLEN[7:0]` (R115). -/
abbrev State.keyLen (s : State) : Nat := s.bfKeylen.toNat

/-- `BF_LEN`, all 32 bits (R116). -/
abbrev State.dataLen (s : State) : Nat := s.bfLen.toNat

end Sys2Proof.Machine
end

