-- ==== Sys2Proof/Machine/Blowfish.lean ====
section
/-! DEFINITION. The Blowfish commands of block D05 (spec/42_blowfish.md rules R520 to R526). -/

namespace Sys2Proof.Machine

/-- Install a key schedule (R520). -/
def State.installSchedule (s : State) (k : PArray × SBoxes) : State :=
  { s with bfP := k.1, bfS := k.2, bfKeyed := true }

/-- The pseudocode of `BF_KEYSCHED` (R520). -/
def bfKeyschedRule (s : State) : CommandResult :=
  if s.keyLen < Config.keyMin ∨ Config.keyMax < s.keyLen then .raise .invalidKey
  else .complete (s.installSchedule (keySchedule s.key s.keyLen))

/-- `BF_KEYSCHED` (R520). -/
def execBfKeysched (s : State) : Host.Outcome State Fault Refusal :=
  .next (s.finish (bfKeyschedRule s))

/-- The pseudocode that `BF_ENCRYPT` and `BF_DECRYPT` share (R522, R524): the checks in order, then the
block function on each block of `BUF[0 … len−1]` in place. -/
def bfCryptRule (f : PArray → SBoxes → Word × Word → Word × Word) (s : State) : CommandResult :=
  if s.bfKeyed = false then .raise .cipherFailure
  else if s.dataLen % 8 ≠ 0 then .raise .invalidBlockSize
  else if Config.bufBytes < s.dataLen then .raise .lengthRange
  else .complete (s.mapBlocks (f s.bfP s.bfS) (s.dataLen / 8))

/-- `BF_ENCRYPT` (R522). -/
def execBfEncrypt (s : State) : Host.Outcome State Fault Refusal :=
  .next (s.finish (bfCryptRule encBlock s))

/-- `BF_DECRYPT` (R524). -/
def execBfDecrypt (s : State) : Host.Outcome State Fault Refusal :=
  .next (s.finish (bfCryptRule decBlock s))

/-- The writes of `BF_CLEAR` (R526): the schedule is zeroed, `KEY` is kept. -/
def State.clearSchedule (s : State) : State :=
  { s with bfP := Vector.replicate 18 0, bfS := Vector.replicate 4 (Vector.replicate 256 0),
           bfKeyed := false }

/-- `BF_CLEAR` (R526). -/
def execBfClear (s : State) : Host.Outcome State Fault Refusal :=
  .next (s.finish (.complete s.clearSchedule))

end Sys2Proof.Machine
end

