-- ==== Sys2Proof/Machine/Control.lean ====
section
/-! DEFINITION. The unit control command (spec/44_control.md rule R580). -/

namespace Sys2Proof.Machine

/-- `NOP` (R580): it completes and does nothing else. -/
def execNop (s : State) : Host.Outcome State Fault Refusal :=
  .next (s.finish (.complete s))

end Sys2Proof.Machine
end

