-- ==== Sys2Proof/Machine/ModArith.lean ====
section
/-! DEFINITION. The arithmetic of block D04 (spec/40_modexp.md rules R400 to R405): exact arithmetic on
natural numbers, so no product is truncated before its reduction (R400). -/

namespace Sys2Proof.Machine

/-- `ModulusOK(n)` (R405): `n` is odd and at least 3. -/
def modulusOK (n : Nat) : Bool := decide (n % 2 = 1) && decide (3 ≤ n)

/-- Square-and-multiply with reductions over the low `k` bits of `e`, the highest first (R404). -/
def powMod (b n : Nat) : Nat → Nat → Nat
  | 0, _ => 1 % n
  | k + 1, e =>
    let h := powMod b n k (e / 2)
    let sq := h * h % n
    if e % 2 = 1 then sq * b % n else sq

/-- `ModExp(b, e, n)` over the 64 bits of `e` (R404). Only the value `b ^ e mod n` is normative. -/
def modExp (b e n : Nat) : Nat := powMod b n 64 e

/-- `Rinv(n)` for odd `n ≥ 3` (R401): the inverse of `R = 2^64` modulo `n`. It is the 64-th power of
the inverse of 2, which is `(n + 1) / 2`. -/
def rInv (n : Nat) : Nat := modExp ((n + 1) / 2) 64 n

/-- The Montgomery product `a * b * Rinv(n) mod n` (R401). -/
def montProd (a b n : Nat) : Nat := a * b * rInv n % n

end Sys2Proof.Machine
end

