-- ==== Sys2Proof/Machine/Sampling.lean ====
section
/-! DEFINITION. Primality, candidates and sampling (spec/41_key_agreement.md rules R451 to R457). A
sampling loop has no bound (R454, R455), so each sampler here takes the number of draws it may use
and answers `none` when they end before it does; the engine's next turn allows more of them. -/

namespace Sys2Proof.Machine

/-- `IsPrime(c)` (R452): a model uses mathematical primality. -/
def isPrime (c : Nat) : Bool := decide (Nat.Prime c)

/-- The twelve fixed bases of the unit's Miller–Rabin test (R452). -/
def mrBases : List Nat := [2, 3, 5, 7, 11, 13, 17, 19, 23, 29, 31, 37]

/-- The factors of 2 in `m`, at most `k` of them, and what is left of `m`. -/
def twoAdic : Nat → Nat → Nat × Nat
  | 0, m => (0, m)
  | k + 1, m => if m % 2 = 0 then let r := twoAdic k (m / 2); (r.1 + 1, r.2) else (0, m)

/-- Some one of `x, x², x⁴, …`, `k` of them, is `c - 1` modulo `c`. -/
def reachesMinusOne (c : Nat) : Nat → Nat → Bool
  | 0, _ => false
  | k + 1, x => decide (x = c - 1) || reachesMinusOne c k (x * x % c)

/-- The odd `c` passes the Miller–Rabin test to the base `a`. -/
def passesBase (c a : Nat) : Bool :=
  let r := twoAdic 64 (c - 1)
  let x := modExp (a % c) r.2 c
  decide (x = 1) || reachesMinusOne c r.1 x

/-- The test that the unit performs (R452): a candidate equal to a base is prime, one divisible by a
base and not equal to it is composite, and any other must pass all twelve bases. The meanings use
`isPrime`; that the two agree below `2^64` is general knowledge (G5). -/
def millerRabin (c : Nat) : Bool :=
  if c < 2 then false
  else if mrBases.contains c then true
  else mrBases.all fun a => decide (c % a ≠ 0) && passesBase c a

/-- `Candidate(d, w)` (R453): the low `w` bits of a draw, with the top bit and the low bit set. -/
def candidate (d : DWord) (w : Nat) : Nat := (d.toNat % 2 ^ w) ||| 2 ^ (w - 1) ||| 1

/-- `CfgLegalGen` (R456). -/
def cfgLegalGen (wp wg xmin xmax : Nat) : Bool :=
  decide (2 ≤ wg) && decide (wg < wp) && decide (wp ≤ 64) && decide (1 ≤ xmin) &&
    decide (xmin ≤ xmax)

/-- `CfgLegalAdopt` (R456). -/
def cfgLegalAdopt (wp xmin xmax : Nat) : Bool :=
  decide (2 ≤ wp) && decide (wp ≤ 64) && decide (1 ≤ xmin) && decide (xmin ≤ xmax)

/-- What a sampler found, the draws that are left to the turn, and the entropy state after it. -/
structure Sampled where
  value : Nat
  left : Nat
  rng : Config.RngState
deriving DecidableEq, Repr

/-- `SamplePrime(w)` (R454): the first prime candidate, one draw each. `left` draws may be used. -/
def samplePrime (next : Config.Source) (w : Nat) : Nat → Config.RngState → Option Sampled
  | 0, _ => none
  | left + 1, r =>
    let d := next r
    if isPrime (candidate d.1 w) then some ⟨candidate d.1 w, left, d.2⟩
    else samplePrime next w left d.2

/-- The bound `L = 2^64 − (2^64 mod n)` under which `SampleX` accepts a draw (R455). -/
def acceptBound (n : Nat) : Nat := 2 ^ 64 - 2 ^ 64 % n

/-- `SampleX(xmin, xmax)` (R455): `xmin + (r mod n)` for the first draw `r < L`. `left` draws may be
used. -/
def sampleX (next : Config.Source) (xmin xmax : Nat) : Nat → Config.RngState → Option Sampled
  | 0, _ => none
  | left + 1, r =>
    let d := next r
    if d.1.toNat < acceptBound (xmax - xmin + 1) then
      some ⟨xmin + d.1.toNat % (xmax - xmin + 1), left, d.2⟩
    else sampleX next xmin xmax left d.2

/-- The values `KA_GENERATE` samples, and the entropy state after them. -/
structure Generated where
  p : Nat
  g : Nat
  x : Nat
  rng : Config.RngState
deriving DecidableEq, Repr

/-- The draws of `KA_GENERATE` (R457): all for `p`, then all for `g`, then all for `x`. -/
def sampleGenerate (next : Config.Source) (wp wg xmin xmax left : Nat) (r : Config.RngState) :
    Option Generated :=
  match samplePrime next wp left r with
  | none => none
  | some p =>
    match samplePrime next wg p.left p.rng with
    | none => none
    | some g =>
      match sampleX next xmin xmax g.left g.rng with
      | none => none
      | some x => some ⟨p.value, g.value, x.value, x.rng⟩

end Sys2Proof.Machine
end

