-- ==== Sys2Proof/Machine/KeyAgreement.lean ====
section
/-! DEFINITION. The key-agreement commands of block D04 (spec/41_key_agreement.md rules R460 to R478).
The entropy source is an argument of the rules that draw (R451); the meanings pass the open
`Config.rngNext`. -/

namespace Sys2Proof.Machine

/-- The writes that `KA_GENERATE` and `KA_ADOPT` share (R460, R462): the whole context, the three
results and the entropy state after the draws. -/
def State.installContext (s : State) (p g x : Nat) (wp : BitVec 7) (rng : Config.RngState) : State :=
  let A := BitVec.ofNat 64 (modExp g x p)
  { s with
    kaP := BitVec.ofNat 64 p, kaG := BitVec.ofNat 64 g, kaX := BitVec.ofNat 64 x, kaA := A,
    kaWp := wp, kaState := .ready,
    res0 := BitVec.ofNat 64 p, res1 := BitVec.ofNat 64 g, res2 := A,
    rng := rng }

/-- How many draws the pending command may have taken by the end of this turn of the engine. A turn
takes up the sampling where the turn before it stopped. -/
def State.drawsAllowed (s : State) : Nat := (s.samplingTurns + 1) * Config.drawsPerTurn

/-- The pseudocode of `KA_GENERATE` (R460). -/
def kaGenerateRule (next : Config.Source) (s : State) : CommandResult :=
  if cfgLegalGen s.wp s.wg s.xmin s.xmax = false then .raise .invalidConfig
  else
    match sampleGenerate next s.wp s.wg s.xmin s.xmax s.drawsAllowed s.rng with
    | none => .drawing
    | some d => .complete (s.installContext d.p d.g d.x s.cfgWp d.rng)

/-- `KA_GENERATE` (R460). -/
def execKaGenerate (s : State) : Host.Outcome State Fault Refusal :=
  .next (s.finish (kaGenerateRule Config.rngNext s))

/-- The pseudocode of `KA_ADOPT` (R462), its checks in order (R606). -/
def kaAdoptRule (next : Config.Source) (s : State) : CommandResult :=
  if cfgLegalAdopt s.wp s.xmin s.xmax = false then .raise .invalidConfig
  else if s.op2Nat ≤ 1 ∨ s.op0Nat ≤ 1 ∨ s.op2Nat ≤ s.op0Nat then .raise .invalidParameters
  else if s.op2Nat % 2 = 0 then .raise .invalidParameters
  else if 2 ^ s.wp ≤ s.op2Nat then .raise .invalidParameters
  else
    match sampleX next s.xmin s.xmax s.drawsAllowed s.rng with
    | none => .drawing
    | some d => .complete (s.installContext s.op2Nat s.op0Nat d.value s.cfgWp d.rng)

/-- `KA_ADOPT` (R462). -/
def execKaAdopt (s : State) : Host.Outcome State Fault Refusal :=
  .next (s.finish (kaAdoptRule Config.rngNext s))

/-- The pseudocode of `KA_DERIVE` (R470, R471): the secret's length is `ceil_div(KA_WP, 8)`. -/
def kaDeriveRule (s : State) : CommandResult :=
  if s.kaState = .empty then .raise .notInitialized
  else if s.op0Nat = 0 ∨ s.kaP.toNat ≤ s.op0Nat then .raise .invalidPeerShare
  else .complete { s with
    res0 := BitVec.ofNat 64 (modExp s.op0Nat s.kaX.toNat s.kaP.toNat)
    resLen := BitVec.ofNat 8 ((s.kaWp.toNat + 7) / 8) }

/-- `KA_DERIVE` (R470). -/
def execKaDerive (s : State) : Host.Outcome State Fault Refusal :=
  .next (s.finish (kaDeriveRule s))

/-- The pseudocode of `KA_SHARE` (R474). -/
def kaShareRule (s : State) : CommandResult :=
  if s.kaState = .empty then .raise .notInitialized
  else .complete { s with res0 := s.kaA }

/-- `KA_SHARE` (R474). -/
def execKaShare (s : State) : Host.Outcome State Fault Refusal :=
  .next (s.finish (kaShareRule s))

/-- The pseudocode of `KA_PARAMS` (R476). -/
def kaParamsRule (s : State) : CommandResult :=
  if s.kaState = .empty then .raise .notInitialized
  else .complete { s with res0 := s.kaP, res1 := s.kaG }

/-- `KA_PARAMS` (R476). -/
def execKaParams (s : State) : Host.Outcome State Fault Refusal :=
  .next (s.finish (kaParamsRule s))

/-- The writes of `KA_CLEAR` (R478). -/
def State.clearContext (s : State) : State :=
  { s with kaP := 0, kaG := 0, kaX := 0, kaA := 0, kaWp := 0, kaState := .empty }

/-- `KA_CLEAR` (R478). -/
def execKaClear (s : State) : Host.Outcome State Fault Refusal :=
  .next (s.finish (.complete s.clearContext))

end Sys2Proof.Machine
end

