-- ==== Sys2Proof/Machine/Modexp.lean ====
section
/-! DEFINITION. The raw modular commands of block D04 (spec/40_modexp.md rules R410, R412). -/

namespace Sys2Proof.Machine

/-- The pseudocode of `MONTMUL` (R410). -/
def montmulRule (s : State) : CommandResult :=
  if modulusOK s.op2Nat = false then .raise .operandRange
  else if s.op2Nat ≤ s.op0Nat ∨ s.op2Nat ≤ s.op1Nat then .raise .operandRange
  else .complete { s with res0 := BitVec.ofNat 64 (montProd s.op0Nat s.op1Nat s.op2Nat) }

/-- `MONTMUL` (R410). -/
def execMontmul (s : State) : Host.Outcome State Fault Refusal :=
  .next (s.finish (montmulRule s))

/-- The pseudocode of `MODEXP` (R412). -/
def modexpRule (s : State) : CommandResult :=
  if modulusOK s.op2Nat = false then .raise .operandRange
  else if s.op2Nat ≤ s.op0Nat then .raise .operandRange
  else .complete { s with res0 := BitVec.ofNat 64 (modExp s.op0Nat s.op1Nat s.op2Nat) }

/-- `MODEXP` (R412). -/
def execModexp (s : State) : Host.Outcome State Fault Refusal :=
  .next (s.finish (modexpRule s))

end Sys2Proof.Machine
end

