-- ==== Sys2Proof/Machine/Dispatch.lean ====
section
/-! DEFINITION. One arm per command: what the engine does when it performs it. -/

namespace Sys2Proof.Machine

def exec (i : Instr) (s : State) : Host.Outcome State Fault Refusal :=
  match i with
  | .nop => Sys2Proof.Machine.execNop s
  | .montmul => Sys2Proof.Machine.execMontmul s
  | .modexp => Sys2Proof.Machine.execModexp s
  | .kaGenerate => Sys2Proof.Machine.execKaGenerate s
  | .kaAdopt => Sys2Proof.Machine.execKaAdopt s
  | .kaDerive => Sys2Proof.Machine.execKaDerive s
  | .kaShare => Sys2Proof.Machine.execKaShare s
  | .kaParams => Sys2Proof.Machine.execKaParams s
  | .kaClear => Sys2Proof.Machine.execKaClear s
  | .bfKeysched => Sys2Proof.Machine.execBfKeysched s
  | .bfEncrypt => Sys2Proof.Machine.execBfEncrypt s
  | .bfDecrypt => Sys2Proof.Machine.execBfDecrypt s
  | .bfClear => Sys2Proof.Machine.execBfClear s

end Sys2Proof.Machine
end

