-- ==== Sys2Proof/Machine/Engine.lean ====
section
/-! DEFINITION. The turn of the engine and the order of events (spec/10_state.md rule R100,
spec/30_encoding.md rules R305, R306). -/

namespace Sys2Proof.Machine

/-- The engine performs the command word in `PENDING` (R306): a legal one by its rule, an illegal one
by completing with `IllegalCommand`. With nothing pending nothing advances (R105). -/
def engineTurn (s : State) : Host.Outcome State Fault Refusal :=
  match s.pending with
  | none => .next s
  | some w =>
    match decode w with
    | .ok i => exec i s
    | .error _ => .next (s.finish (.raise .illegalCommand))

/-- One event at the unit: the next input, or the engine's turn when no input is left. So the engine
is weakly fair (R716), and every interleaving with the host's accesses is some list of inputs. -/
def nextEvent (s : State) : Host.Outcome State Fault Refusal :=
  match s.inputs with
  | [] => engineTurn s
  | .engine :: rest => engineTurn { s with inputs := rest }
  | .access a :: rest => hostAccess { s with inputs := rest } a
  | .reset :: rest => .next (State.resetUnit { s with inputs := rest })

/-- The state in which the command word `w` has just been accepted and the engine has the turn. -/
def State.deliver (s : State) (w : Word) : State := { s.accept w with inputs := [] }

end Sys2Proof.Machine
end

