-- ==== Sys2Proof/Machine/Step.lean ====
section
/-! DEFINITION. One step of the machine, and the word its next step performs. -/

namespace Sys2Proof.Machine

/-- One step: one event at the unit. -/
def step (s : State) : Host.Outcome State Fault Refusal := nextEvent s

/-- The unit fetches no instructions: a command takes effect by the write to `CMD` that delivers it
(R219), and `PENDING` plays the part of the current instruction (R105). So the word stands where the
next step takes it when it has just been accepted (R305) and the engine has the turn. -/
def State.withFetchWord (s : State) (nbits w : Nat) : State := s.deliver (tableWord nbits w)

end Sys2Proof.Machine
end

