-- ==== Sys2Proof/Safety.lean ====
section
/-! DEFINITION. The invariant of the unit, in the terms the statements use. -/

namespace Sys2Proof.Machine

/-- What the key-agreement context satisfies in `Ready` (spec/10_state.md rule R121). -/
structure State.ContextOk (s : State) : Prop where
  odd : s.kaP.toNat % 2 = 1
  three_le : 3 ≤ s.kaP.toNat
  lt_width : s.kaP.toNat < 2 ^ s.kaWp.toNat
  two_le_width : 2 ≤ s.kaWp.toNat
  width_le : s.kaWp.toNat ≤ 64
  one_lt_g : 1 < s.kaG.toNat
  g_lt : s.kaG.toNat < s.kaP.toNat
  x_pos : 1 ≤ s.kaX.toNat
  share : s.kaA.toNat = s.kaG.toNat ^ s.kaX.toNat % s.kaP.toNat

/-- The key-agreement registers hold nothing (R700, R478). -/
def State.contextZero (s : State) : Prop :=
  s.kaP = 0 ∧ s.kaG = 0 ∧ s.kaX = 0 ∧ s.kaA = 0 ∧ s.kaWp = 0

/-- The schedule registers hold nothing (R700, R526). -/
def State.scheduleZero (s : State) : Prop :=
  s.bfP = Vector.replicate 18 0 ∧ s.bfS = Vector.replicate 4 (Vector.replicate 256 0)

/-- The invariant that every step keeps. -/
structure State.Inv (s : State) : Prop where
  /-- `BUF` is in its canonical form and inside its 1024 bytes (R118). -/
  bufWf : s.buf.wf = true
  /-- While a command is pending, `DONE` and `ERRCODE` are 0 and `LASTOP` is its opcode (R106, R305). -/
  pendingFields : ∀ w, s.pending = some w → s.done = false ∧ s.errcode = .ok ∧ s.lastop = opcField w
  /-- With nothing pending, no draw is under way. -/
  idle : s.pending = none → s.samplingTurns = 0
  /-- The context in `Ready` (R121). -/
  context : s.kaState = .ready → s.ContextOk
  /-- The context in `Empty`. -/
  noContext : s.kaState = .empty → s.contextZero
  /-- `BF_KEYED = 1` only with the schedule of an accepted key (R122). -/
  schedule : s.bfKeyed = true → ∃ (key : Vector Byte 56) (n : Nat),
    Config.keyMin ≤ n ∧ n ≤ Config.keyMax ∧ keySchedule key n = (s.bfP, s.bfS)
  /-- `BF_KEYED = 0` only with the schedule zeroed. -/
  noSchedule : s.bfKeyed = false → s.scheduleZero
  /-- A secret's byte string fits `RES0` (R109, R471). -/
  resLen : s.resLen.toNat ≤ 8

/-- The states that agree on everything a command reads or writes. They may differ in `CTRL.IE`,
`STATUS.OVR`, `STATUS.DONE`, and the model's inputs, bus answer and count of free values. -/
structure State.SameUnit (s t : State) : Prop where
  pending : s.pending = t.pending
  errcode : s.errcode = t.errcode
  lastop : s.lastop = t.lastop
  op0 : s.op0 = t.op0
  op1 : s.op1 = t.op1
  op2 : s.op2 = t.op2
  res0 : s.res0 = t.res0
  res1 : s.res1 = t.res1
  res2 : s.res2 = t.res2
  resLen : s.resLen = t.resLen
  cfgWp : s.cfgWp = t.cfgWp
  cfgWg : s.cfgWg = t.cfgWg
  cfgXmin : s.cfgXmin = t.cfgXmin
  cfgXmax : s.cfgXmax = t.cfgXmax
  seedLo : s.seedLo = t.seedLo
  rng : s.rng = t.rng
  bfKeylen : s.bfKeylen = t.bfKeylen
  bfLen : s.bfLen = t.bfLen
  key : s.key = t.key
  buf : s.buf = t.buf
  kaState : s.kaState = t.kaState
  kaP : s.kaP = t.kaP
  kaG : s.kaG = t.kaG
  kaX : s.kaX = t.kaX
  kaA : s.kaA = t.kaA
  kaWp : s.kaWp = t.kaWp
  bfP : s.bfP = t.bfP
  bfS : s.bfS = t.bfS
  bfKeyed : s.bfKeyed = t.bfKeyed
  samplingTurns : s.samplingTurns = t.samplingTurns
  resets : s.resets = t.resets

/-- The state after `n` draws of an entropy source (R16). -/
def drawState (next : Config.Source) (r : Config.RngState) : Nat → Config.RngState
  | 0 => r
  | n + 1 => (next (drawState next r n)).2

/-- The `n`-th draw of an entropy source, counted from 0 (R16). -/
def drawAt (next : Config.Source) (r : Config.RngState) (n : Nat) : DWord :=
  (next (drawState next r n)).1

end Sys2Proof.Machine
end

