-- ==== Sys2Proof/WellFormed.lean ====
section
/-! DEFINITION. What a well-formed command is: `Instr.wellFormed` for an instruction term, and
`legalCommand` for a 32-bit command word (spec/30_encoding.md rule R302). -/

namespace Sys2Proof

/-- Every instruction term is well-formed: a command has no operand field to check (R303). -/
def Instr.wellFormed : Instr → Bool
  | .nop => true
  | .montmul => true
  | .modexp => true
  | .kaGenerate => true
  | .kaAdopt => true
  | .kaDerive => true
  | .kaShare => true
  | .kaParams => true
  | .kaClear => true
  | .bfKeysched => true
  | .bfEncrypt => true
  | .bfDecrypt => true
  | .bfClear => true

/-- The reserved field `RSV`, bits `[31:8]`, is zero (R300). -/
def reservedZero (w : Word) : Bool := decide (w.toNat < 2 ^ 8)

/-- `o` is one of the thirteen `OPC` values: outside the reserved ranges `0x03`–`0x0F`,
`0x16`–`0x1F` and `0x24`–`0xFF` (R302). -/
def opcodeAssigned (o : Nat) : Bool :=
  decide (o ≤ 0x02) || (decide (0x10 ≤ o) && decide (o ≤ 0x15)) ||
    (decide (0x20 ≤ o) && decide (o ≤ 0x23))

/-- A word is a legal command exactly when `RSV` is zero and `OPC` is assigned (R302). -/
def legalCommand (w : Word) : Bool := reservedZero w && opcodeAssigned (w.toNat % 2 ^ 8)

end Sys2Proof
end

