-- ==== Sys2Proof/Certificates/Slice0/Obligations.lean ====
section
/-! DEFINITION. The statements for the provers. Each names the rule of spec/ that it formalises. -/

open Sys2Proof Sys2Proof.Machine

/-! ## Encoding and the step -/

/-- R301: words of the opcode map, as the table gives them, decode to their commands. -/
def Obligations.OpcodeWordsDecode : Prop :=
  decodeTableWord 32 0x00000000 = some .nop ∧ decodeTableWord 32 0x00000002 = some .modexp ∧
  decodeTableWord 32 0x00000010 = some .kaGenerate ∧ decodeTableWord 32 0x00000015 = some .kaClear ∧
  decodeTableWord 32 0x00000020 = some .bfKeysched ∧ decodeTableWord 32 0x00000023 = some .bfClear ∧
  decodeTableWord 32 0x00000100 = none ∧ decodeTableWord 32 0x00000003 = none

/-- R302: the legal words are exactly those with `RSV = 0` and one of the thirteen `OPC` values; every
other word is rejected. -/
def Obligations.LegalWordsAreTheOpcodeMap : Prop :=
  ∀ w : Word,
    ((∃ i, decode w = .ok i) ↔
      w.toNat / 2 ^ 8 = 0 ∧ w.toNat % 2 ^ 8 ∈
        [0x00, 0x01, 0x02, 0x10, 0x11, 0x12, 0x13, 0x14, 0x15, 0x20, 0x21, 0x22, 0x23]) ∧
    ((∃ e, decode w = .error e) ↔
      w.toNat / 2 ^ 8 ≠ 0 ∨ (0x03 ≤ w.toNat % 2 ^ 8 ∧ w.toNat % 2 ^ 8 ≤ 0x0F) ∨
        (0x16 ≤ w.toNat % 2 ^ 8 ∧ w.toNat % 2 ^ 8 ≤ 0x1F) ∨ 0x24 ≤ w.toNat % 2 ^ 8) ∧
    (legalCommand w = true ↔ ∃ i, decode w = .ok i)

/-- R301, R302: decoding and encoding agree on every word, for every command: no word but a command's
own decodes to it. The bus order of the bytes loses nothing. -/
def Obligations.DecodeInvertsEncode : Prop :=
  ∀ (w : Word) (i : Instr), (decode w = .ok i ↔ w = encode i) ∧ decodeBytes (wordBytes w) = decode w

/-- R105, R306: with a legal word pending, the engine's turn performs its command, whether the turn is
the next input or no input is left; with nothing pending the turn changes nothing. The list of inputs
and the delivery of a word are the model's choice (log entry 4). -/
def Obligations.StepRunsPendingCommand : Prop :=
  (∀ (s : State) (w : Word) (i : Instr), s.pending = some w → decode w = .ok i → s.inputs = [] →
    step s = exec i s) ∧
  (∀ (s : State) (w : Word) (i : Instr) (rest : List Input), s.pending = some w →
    decode w = .ok i → s.inputs = .engine :: rest → step s = exec i { s with inputs := rest }) ∧
  (∀ s : State, s.pending = none → s.inputs = [] → step s = .next s) ∧
  (∀ (s : State) (i : Instr), step (s.withFetchWord 32 (encode i).toNat) =
    exec i (s.withFetchWord 32 (encode i).toNat))

/-- R306, R606: an illegal pending word completes with `IllegalCommand` and changes nothing else. -/
def Obligations.IllegalWordEndsIllegalCommand : Prop :=
  ∀ (s : State) (w : Word) (e : DecodeError), s.pending = some w → decode w = .error e →
    s.inputs = [] →
    step s = .next { s with
      pending := none, done := true, errcode := .illegalCommand, samplingTurns := 0 }

/-! ## The arithmetic of block D04 -/

/-- R404: `ModExp(b, e, n) = b ^ e mod n` for odd `n ≥ 3`, `b < n` and any 64-bit `e`, with
`ModExp(b, 0, n) = 1` even for `b = 0`. -/
def Obligations.ModExpIsThePowerModN : Prop :=
  ∀ b e n : Nat, n % 2 = 1 → 3 ≤ n → b < n → e < 2 ^ 64 →
    modExp b e n = b ^ e % n ∧ modExp b 0 n = 1

/-- R401: `Rinv(n)` is the one integer in `[0, n)` with `(R * Rinv(n)) mod n = 1`, and the Montgomery
product is `(a * b * Rinv(n)) mod n`, fully reduced. -/
def Obligations.MontgomeryProductUsesTheInverseOfR : Prop :=
  ∀ n : Nat, n % 2 = 1 → 3 ≤ n →
    (∀ r : Nat, (r < n ∧ 2 ^ 64 * r % n = 1) ↔ r = rInv n) ∧
    ∀ a b : Nat, a < n → b < n →
      montProd a b n = a * b * rInv n % n ∧ montProd a b n < n

/-- R402: the word-serial REDC realization gives the Montgomery product: `t + m*n` is divisible by
`R`, `u < 2n`, and one conditional subtraction gives the value. -/
def Obligations.RedcGivesTheMontgomeryProduct : Prop :=
  ∀ n ninv a b : Nat, n % 2 = 1 → 3 ≤ n → n < 2 ^ 64 → ninv < 2 ^ 64 → n * ninv % 2 ^ 64 = 1 →
    a < n → b < n →
    let nprime := (2 ^ 64 - ninv) % 2 ^ 64
    let t := a * b
    let m := t % 2 ^ 64 * nprime % 2 ^ 64
    let u := (t + m * n) / 2 ^ 64
    (t + m * n) % 2 ^ 64 = 0 ∧ u < 2 * n ∧ (if n ≤ u then u - n else u) = montProd a b n

/-- R403: entering and leaving the Montgomery domain, and products in it. -/
def Obligations.MontgomeryDomainIsMultiplicative : Prop :=
  ∀ n x y : Nat, n % 2 = 1 → 3 ≤ n → x < n → y < n →
    montProd x ((2 ^ 64) ^ 2 % n) n = x * 2 ^ 64 % n ∧
    montProd y 1 n = y * rInv n % n ∧
    montProd (x * 2 ^ 64 % n) (y * 2 ^ 64 % n) n = x * y % n * 2 ^ 64 % n

/-! ## Primality and sampling -/

/-- R452: `IsPrime(c)` holds exactly when `c ≥ 2` has no divisor but 1 and itself, and the twelve-base
Miller–Rabin test rejects no prime below `2^64`. -/
def Obligations.PrimesPassMillerRabin : Prop :=
  (∀ c : Nat, isPrime c = true ↔ 2 ≤ c ∧ ∀ d : Nat, d ∣ c → d = 1 ∨ d = c) ∧
  (∀ c : Nat, c < 2 ^ 64 → isPrime c = true → millerRabin c = true)

/-- R453: the bits of `Candidate(d, w)`, that it is odd, and its range. -/
def Obligations.CandidateHasTopAndLowBitsSet : Prop :=
  ∀ (d : DWord) (w : Nat), 2 ≤ w → w ≤ 64 →
    (∀ i : Nat, (candidate d w).testBit i =
      (decide (i = 0) || decide (i = w - 1) || (decide (i < w) && d.getLsbD i))) ∧
    candidate d w % 2 = 1 ∧ 2 ^ (w - 1) + 1 ≤ candidate d w ∧ candidate d w ≤ 2 ^ w - 1

/-- R454: `SamplePrime(w)` returns the first prime candidate and has used one draw per candidate; within
a number of draws it is found exactly when one of them gives a prime candidate. -/
def Obligations.SamplePrimeTakesTheFirstPrimeCandidate : Prop :=
  ∀ (next : Config.Source) (w left : Nat) (r : Config.RngState) (x : Sampled),
    samplePrime next w left r = some x ↔
      ∃ k : Nat, k < left ∧ isPrime (candidate (drawAt next r k) w) = true ∧
        (∀ j : Nat, j < k → isPrime (candidate (drawAt next r j) w) = false) ∧
        x = ⟨candidate (drawAt next r k) w, left - (k + 1), drawState next r (k + 1)⟩

/-- R455: `SampleX` takes the first draw below `L`, gives `xmin + (r mod n)`, which lies in the range,
and every value of the range has the same number of accepted draws. -/
def Obligations.SampleXIsUnbiased : Prop :=
  ∀ xmin xmax : Nat, 1 ≤ xmin → xmin ≤ xmax → xmax < 2 ^ 64 →
    (∀ (next : Config.Source) (left : Nat) (r : Config.RngState) (x : Sampled),
      sampleX next xmin xmax left r = some x ↔
        ∃ k : Nat, k < left ∧
          (drawAt next r k).toNat < 2 ^ 64 - 2 ^ 64 % (xmax - xmin + 1) ∧
          (∀ j : Nat, j < k → 2 ^ 64 - 2 ^ 64 % (xmax - xmin + 1) ≤ (drawAt next r j).toNat) ∧
          x = ⟨xmin + (drawAt next r k).toNat % (xmax - xmin + 1), left - (k + 1),
            drawState next r (k + 1)⟩) ∧
    (∀ v : Nat, xmin ≤ v → v ≤ xmax →
      ((Finset.range (2 ^ 64 - 2 ^ 64 % (xmax - xmin + 1))).filter
        (fun d => xmin + d % (xmax - xmin + 1) = v)).card =
        (2 ^ 64 - 2 ^ 64 % (xmax - xmin + 1)) / (xmax - xmin + 1)) ∧
    (∀ d : Nat, xmin ≤ xmin + d % (xmax - xmin + 1) ∧ xmin + d % (xmax - xmin + 1) ≤ xmax)

/-- R456: configuration legality. -/
def Obligations.ConfigLegality : Prop :=
  ∀ wp wg xmin xmax : Nat,
    (cfgLegalGen wp wg xmin xmax = true ↔
      (2 ≤ wg ∧ wg < wp ∧ wp ≤ 64) ∧ 1 ≤ xmin ∧ xmin ≤ xmax) ∧
    (cfgLegalAdopt wp xmin xmax = true ↔ (2 ≤ wp ∧ wp ≤ 64) ∧ 1 ≤ xmin ∧ xmin ≤ xmax)

/-! ## The commands: what each does and what it leaves alone

Each result is an equation for the whole next state, so every field it does not name is unchanged. -/

/-- R580: `NOP`. -/
def Obligations.NopOnlyCompletes : Prop :=
  encode .nop = 0x00000000#32 ∧
  (∀ s : State, exec .nop s =
    .next { s with pending := none, done := true, errcode := .ok, samplingTurns := 0 }) ∧
  (∀ s t : State, exec .nop s = .next t → s.ie = true → t.irq = true) ∧
  (∀ (s : State) (w : Word), opcField w = 0x00#8 → rsvField w ≠ 0 → s.pending = some w →
    s.inputs = [] → step s = .next { s with
      pending := none, done := true, errcode := .illegalCommand, samplingTurns := 0 })

/-- R410: `MONTMUL`. -/
def Obligations.MontmulGivesTheMontgomeryProduct : Prop :=
  encode .montmul = 0x00000001#32 ∧
  (∀ s : State, (s.op2.toNat % 2 = 0 ∨ s.op2.toNat < 3 ∨ s.op2.toNat ≤ s.op0.toNat ∨
      s.op2.toNat ≤ s.op1.toNat) →
    exec .montmul s = .next { s with
      pending := none, done := true, errcode := .operandRange, samplingTurns := 0 }) ∧
  (∀ s : State, s.op2.toNat % 2 = 1 → 3 ≤ s.op2.toNat → s.op0.toNat < s.op2.toNat →
      s.op1.toNat < s.op2.toNat →
    ∃ rinv : Nat, rinv < s.op2.toNat ∧ 2 ^ 64 * rinv % s.op2.toNat = 1 ∧
      exec .montmul s = .next { s with
        res0 := BitVec.ofNat 64 (s.op0.toNat * s.op1.toNat * rinv % s.op2.toNat),
        pending := none, done := true, errcode := .ok, samplingTurns := 0 })

/-- R412: `MODEXP`. -/
def Obligations.ModexpGivesThePower : Prop :=
  encode .modexp = 0x00000002#32 ∧
  (∀ s : State, (s.op2.toNat % 2 = 0 ∨ s.op2.toNat < 3 ∨ s.op2.toNat ≤ s.op0.toNat) →
    exec .modexp s = .next { s with
      pending := none, done := true, errcode := .operandRange, samplingTurns := 0 }) ∧
  (∀ s : State, s.op2.toNat % 2 = 1 → 3 ≤ s.op2.toNat → s.op0.toNat < s.op2.toNat →
    exec .modexp s = .next { s with
      res0 := BitVec.ofNat 64 (s.op0.toNat ^ s.op1.toNat % s.op2.toNat),
      pending := none, done := true, errcode := .ok, samplingTurns := 0 })

/-- R460: `KA_GENERATE`. With a legal configuration the turn installs what the draws gave, in the order
`p`, `g`, `x`. Unless the draws that the turns so far allow give all three (the count of draws in a turn
is the model's, log entry 5), the command stays pending and nothing of the unit changes. -/
def Obligations.KaGenerateInstallsAFreshContext : Prop :=
  encode .kaGenerate = 0x00000010#32 ∧
  (∀ s : State, cfgLegalGen s.cfgWp.toNat s.cfgWg.toNat s.cfgXmin.toNat s.cfgXmax.toNat = false →
    exec .kaGenerate s = .next { s with
      pending := none, done := true, errcode := .invalidConfig, samplingTurns := 0 }) ∧
  (∀ (s : State) (p g x : Sampled),
    cfgLegalGen s.cfgWp.toNat s.cfgWg.toNat s.cfgXmin.toNat s.cfgXmax.toNat = true →
    samplePrime Config.rngNext s.cfgWp.toNat s.drawsAllowed s.rng = some p →
    samplePrime Config.rngNext s.cfgWg.toNat p.left p.rng = some g →
    sampleX Config.rngNext s.cfgXmin.toNat s.cfgXmax.toNat g.left g.rng = some x →
    exec .kaGenerate s = .next { s with
      kaP := BitVec.ofNat 64 p.value, kaG := BitVec.ofNat 64 g.value,
      kaX := BitVec.ofNat 64 x.value, kaA := BitVec.ofNat 64 (g.value ^ x.value % p.value),
      kaWp := s.cfgWp, kaState := .ready,
      res0 := BitVec.ofNat 64 p.value, res1 := BitVec.ofNat 64 g.value,
      res2 := BitVec.ofNat 64 (g.value ^ x.value % p.value), rng := x.rng,
      pending := none, done := true, errcode := .ok, samplingTurns := 0 }) ∧
  (∀ s : State, cfgLegalGen s.cfgWp.toNat s.cfgWg.toNat s.cfgXmin.toNat s.cfgXmax.toNat = true →
    (sampleGenerate Config.rngNext s.cfgWp.toNat s.cfgWg.toNat s.cfgXmin.toNat s.cfgXmax.toNat
      s.drawsAllowed s.rng).isSome = true ∨
    exec .kaGenerate s = .next { s with samplingTurns := s.samplingTurns + 1 })

/-- R462: `KA_ADOPT`, its checks in order. How many draws the turns so far allow is the model's choice (log
entry 5); unless they give an accepted one, the command stays pending and nothing of the unit changes. -/
def Obligations.KaAdoptInstallsGivenParameters : Prop :=
  encode .kaAdopt = 0x00000011#32 ∧
  (∀ s : State, cfgLegalAdopt s.cfgWp.toNat s.cfgXmin.toNat s.cfgXmax.toNat = false →
    exec .kaAdopt s = .next { s with
      pending := none, done := true, errcode := .invalidConfig, samplingTurns := 0 }) ∧
  (∀ s : State, cfgLegalAdopt s.cfgWp.toNat s.cfgXmin.toNat s.cfgXmax.toNat = true →
    (s.op2.toNat ≤ 1 ∨ s.op0.toNat ≤ 1 ∨ s.op2.toNat ≤ s.op0.toNat ∨ s.op2.toNat % 2 = 0 ∨
      2 ^ s.cfgWp.toNat ≤ s.op2.toNat) →
    exec .kaAdopt s = .next { s with
      pending := none, done := true, errcode := .invalidParameters, samplingTurns := 0 }) ∧
  (∀ s : State, cfgLegalAdopt s.cfgWp.toNat s.cfgXmin.toNat s.cfgXmax.toNat = true →
    1 < s.op0.toNat → s.op0.toNat < s.op2.toNat → s.op2.toNat % 2 = 1 →
    s.op2.toNat < 2 ^ s.cfgWp.toNat →
    (∀ x : Sampled,
      sampleX Config.rngNext s.cfgXmin.toNat s.cfgXmax.toNat s.drawsAllowed s.rng = some x →
      exec .kaAdopt s = .next { s with
        kaP := s.op2, kaG := s.op0, kaX := BitVec.ofNat 64 x.value,
        kaA := BitVec.ofNat 64 (s.op0.toNat ^ x.value % s.op2.toNat),
        kaWp := s.cfgWp, kaState := .ready, res0 := s.op2, res1 := s.op0,
        res2 := BitVec.ofNat 64 (s.op0.toNat ^ x.value % s.op2.toNat), rng := x.rng,
        pending := none, done := true, errcode := .ok, samplingTurns := 0 }) ∧
    ((sampleX Config.rngNext s.cfgXmin.toNat s.cfgXmax.toNat s.drawsAllowed s.rng).isSome = true ∨
      exec .kaAdopt s = .next { s with samplingTurns := s.samplingTurns + 1 }))

/-- R470: `KA_DERIVE`. -/
def Obligations.KaDeriveGivesTheSharedSecret : Prop :=
  encode .kaDerive = 0x00000012#32 ∧
  (∀ s : State, s.kaState = .empty → exec .kaDerive s = .next { s with
      pending := none, done := true, errcode := .notInitialized, samplingTurns := 0 }) ∧
  (∀ s : State, s.kaState = .ready → (s.op0 = 0 ∨ s.kaP.toNat ≤ s.op0.toNat) →
    exec .kaDerive s = .next { s with
      pending := none, done := true, errcode := .invalidPeerShare, samplingTurns := 0 }) ∧
  (∀ s : State, s.kaState = .ready → 0 < s.op0.toNat → s.op0.toNat < s.kaP.toNat →
    exec .kaDerive s = .next { s with
      res0 := BitVec.ofNat 64 (s.op0.toNat ^ s.kaX.toNat % s.kaP.toNat),
      resLen := BitVec.ofNat 8 ((s.kaWp.toNat + 7) / 8),
      pending := none, done := true, errcode := .ok, samplingTurns := 0 })

/-- R471, R203: the bytes of the shared secret as the host reads them at offsets `0x040 + i`, under the
invariant. -/
def Obligations.SharedSecretBytesAreLittleEndian : Prop :=
  ∀ s t : State, s.Inv → s.kaState = .ready → 0 < s.op0.toNat → s.op0.toNat < s.kaP.toNat →
    exec .kaDerive s = .next t →
    t.resLen.toNat = (s.kaWp.toNat + 7) / 8 ∧
    ∀ i : Nat, i < 8 →
      (t.readReg (regAt 0x044) ++ t.readReg (regAt 0x040)).extractLsb' (8 * i) 8 =
        BitVec.ofNat 8 (s.op0.toNat ^ s.kaX.toNat % s.kaP.toNat / 2 ^ (8 * i)) ∧
      (t.resLen.toNat ≤ i →
        (t.readReg (regAt 0x044) ++ t.readReg (regAt 0x040)).extractLsb' (8 * i) 8 = 0#8)

/-- R474, R476: `KA_SHARE` and `KA_PARAMS`. -/
def Obligations.KaShareAndKaParamsCopyTheContext : Prop :=
  encode .kaShare = 0x00000013#32 ∧ encode .kaParams = 0x00000014#32 ∧
  (∀ s : State, s.kaState = .empty →
    exec .kaShare s = .next { s with
      pending := none, done := true, errcode := .notInitialized, samplingTurns := 0 } ∧
    exec .kaParams s = .next { s with
      pending := none, done := true, errcode := .notInitialized, samplingTurns := 0 }) ∧
  (∀ s : State, s.kaState = .ready →
    exec .kaShare s = .next { s with
      res0 := s.kaA, pending := none, done := true, errcode := .ok, samplingTurns := 0 } ∧
    exec .kaParams s = .next { s with
      res0 := s.kaP, res1 := s.kaG,
      pending := none, done := true, errcode := .ok, samplingTurns := 0 })

/-- R478, R526: `KA_CLEAR` and `BF_CLEAR`. -/
def Obligations.ClearCommandsZeroTheirContext : Prop :=
  encode .kaClear = 0x00000015#32 ∧ encode .bfClear = 0x00000023#32 ∧
  ∀ s : State,
    exec .kaClear s = .next { s with
      kaP := 0, kaG := 0, kaX := 0, kaA := 0, kaWp := 0, kaState := .empty,
      pending := none, done := true, errcode := .ok, samplingTurns := 0 } ∧
    exec .bfClear s = .next { s with
      bfP := Vector.replicate 18 0, bfS := Vector.replicate 4 (Vector.replicate 256 0),
      bfKeyed := false, pending := none, done := true, errcode := .ok, samplingTurns := 0 }

/-- R520: `BF_KEYSCHED`. -/
def Obligations.BfKeyschedInstallsTheSchedule : Prop :=
  encode .bfKeysched = 0x00000020#32 ∧
  (∀ s : State, (s.bfKeylen.toNat < 1 ∨ 56 < s.bfKeylen.toNat) →
    exec .bfKeysched s = .next { s with
      pending := none, done := true, errcode := .invalidKey, samplingTurns := 0 }) ∧
  (∀ s : State, 1 ≤ s.bfKeylen.toNat → s.bfKeylen.toNat ≤ 56 →
    exec .bfKeysched s = .next { s with
      bfP := (keySchedule s.key s.bfKeylen.toNat).1, bfS := (keySchedule s.key s.bfKeylen.toNat).2,
      bfKeyed := true, pending := none, done := true, errcode := .ok, samplingTurns := 0 })

/-- R522, R606: `BF_ENCRYPT`: its checks in order, each block of `BUF[0 … len−1]` encrypted alone, and
every byte from `len` on unchanged. -/
def Obligations.BfEncryptTransformsEachBlock : Prop :=
  encode .bfEncrypt = 0x00000021#32 ∧
  (∀ s : State, s.bfKeyed = false → exec .bfEncrypt s = .next { s with
      pending := none, done := true, errcode := .cipherFailure, samplingTurns := 0 }) ∧
  (∀ s : State, s.bfKeyed = true → s.bfLen.toNat % 8 ≠ 0 → exec .bfEncrypt s = .next { s with
      pending := none, done := true, errcode := .invalidBlockSize, samplingTurns := 0 }) ∧
  (∀ s : State, s.bfKeyed = true → s.bfLen.toNat % 8 = 0 → 1024 < s.bfLen.toNat →
    exec .bfEncrypt s = .next { s with
      pending := none, done := true, errcode := .lengthRange, samplingTurns := 0 }) ∧
  (∀ s : State, s.bfKeyed = true → s.bfLen.toNat % 8 = 0 → s.bfLen.toNat ≤ 1024 →
    ∃ m : Memory,
      exec .bfEncrypt s = .next { s with
        buf := m, pending := none, done := true, errcode := .ok, samplingTurns := 0 } ∧
      (∀ k : Nat, k < s.bfLen.toNat / 8 →
        m.readBlock s.resets (8 * k) = encBlock s.bfP s.bfS (s.buf.readBlock s.resets (8 * k))) ∧
      (∀ i : Nat, s.bfLen.toNat ≤ i → m.byte s.resets i = s.buf.byte s.resets i))

/-- R524, R606: `BF_DECRYPT`, as `BF_ENCRYPT` with `DecBlock`. -/
def Obligations.BfDecryptTransformsEachBlock : Prop :=
  encode .bfDecrypt = 0x00000022#32 ∧
  (∀ s : State, s.bfKeyed = false → exec .bfDecrypt s = .next { s with
      pending := none, done := true, errcode := .cipherFailure, samplingTurns := 0 }) ∧
  (∀ s : State, s.bfKeyed = true → s.bfLen.toNat % 8 ≠ 0 → exec .bfDecrypt s = .next { s with
      pending := none, done := true, errcode := .invalidBlockSize, samplingTurns := 0 }) ∧
  (∀ s : State, s.bfKeyed = true → s.bfLen.toNat % 8 = 0 → 1024 < s.bfLen.toNat →
    exec .bfDecrypt s = .next { s with
      pending := none, done := true, errcode := .lengthRange, samplingTurns := 0 }) ∧
  (∀ s : State, s.bfKeyed = true → s.bfLen.toNat % 8 = 0 → s.bfLen.toNat ≤ 1024 →
    ∃ m : Memory,
      exec .bfDecrypt s = .next { s with
        buf := m, pending := none, done := true, errcode := .ok, samplingTurns := 0 } ∧
      (∀ k : Nat, k < s.bfLen.toNat / 8 →
        m.readBlock s.resets (8 * k) = decBlock s.bfP s.bfS (s.buf.readBlock s.resets (8 * k))) ∧
      (∀ i : Nat, s.bfLen.toNat ≤ i → m.byte s.resets i = s.buf.byte s.resets i))

/-! ## Properties of the key agreement -/

/-- R481: what holds after every successful `KA_GENERATE`. -/
def Obligations.GenerateGivesPrimesAndTheShare : Prop :=
  ∀ (s t : State) (w : Word), s.pending = some w → exec .kaGenerate s = .next t →
    t.pending = none → t.errcode = .ok →
    Nat.Prime t.kaP.toNat ∧ 1 < t.kaG.toNat ∧ t.kaG.toNat < t.kaP.toNat ∧
    t.kaA.toNat = t.kaG.toNat ^ t.kaX.toNat % t.kaP.toNat ∧
    s.cfgXmin.toNat ≤ t.kaX.toNat ∧ t.kaX.toNat ≤ s.cfgXmax.toNat ∧ Nat.Prime t.kaG.toNat

/-- R480: agreement. Unit I has generated, unit R has adopted I's parameters; then I's derivation from
R's share and R's from I's share both succeed and leave the same secret, and the same length when the
two widths are equal. -/
def Obligations.BothPartiesDeriveTheSameSecret : Prop :=
  ∀ (sI tI sR tR uI uR : State) (wI wR : Word),
    sI.pending = some wI → exec .kaGenerate sI = .next tI → tI.pending = none → tI.errcode = .ok →
    sR.op0 = tI.res1 → sR.op2 = tI.res0 →
    sR.pending = some wR → exec .kaAdopt sR = .next tR → tR.pending = none → tR.errcode = .ok →
    uI.kaState = tI.kaState → uI.kaP = tI.kaP → uI.kaX = tI.kaX → uI.kaWp = tI.kaWp →
    uR.kaState = tR.kaState → uR.kaP = tR.kaP → uR.kaX = tR.kaX → uR.kaWp = tR.kaWp →
    uI.op0 = tR.res2 → uR.op0 = tI.res2 →
    ∃ vI vR : State, exec .kaDerive uI = .next vI ∧ exec .kaDerive uR = .next vR ∧
      vI.errcode = .ok ∧ vR.errcode = .ok ∧ vI.res0 = vR.res0 ∧
      (sI.cfgWp = sR.cfgWp → vI.resLen = vR.resLen)

/-- R450: the only events that change the key-agreement context: a reset, a `KA_GENERATE` or `KA_ADOPT`
that ends in `OK` (to `Ready`), and `KA_CLEAR` (to `Empty`). -/
def Obligations.ContextChangesOnlyByItsCommands : Prop :=
  ∀ s t : State, step s = .next t →
    ¬(t.kaState = s.kaState ∧ t.kaP = s.kaP ∧ t.kaG = s.kaG ∧ t.kaX = s.kaX ∧ t.kaA = s.kaA ∧
      t.kaWp = s.kaWp) →
    (∃ rest : List Input, s.inputs = .reset :: rest ∧ t.kaState = .empty) ∨
    ((s.inputs = [] ∨ ∃ rest : List Input, s.inputs = .engine :: rest) ∧
      t.pending = none ∧ t.errcode = .ok ∧
      ((s.pending = some (encode .kaGenerate) ∧ t.kaState = .ready) ∨
       (s.pending = some (encode .kaAdopt) ∧ t.kaState = .ready) ∨
       (s.pending = some (encode .kaClear) ∧ t.kaState = .empty)))

/-- R123, R457: the only events that change `RNG_STATE`: a reset, a `KA_GENERATE` or `KA_ADOPT` that ends
in `OK` (a failed one takes no draw), and a write of `RNG_SEED_HI` while no command is pending. -/
def Obligations.EntropyChangesOnlyByDrawsAndSeeding : Prop :=
  ∀ s t : State, step s = .next t → t.rng ≠ s.rng →
    (∃ rest : List Input, s.inputs = .reset :: rest) ∨
    ((s.inputs = [] ∨ ∃ rest : List Input, s.inputs = .engine :: rest) ∧
      t.pending = none ∧ t.errcode = .ok ∧
      (s.pending = some (encode .kaGenerate) ∨ s.pending = some (encode .kaAdopt))) ∨
    (s.pending = none ∧ ∃ (v : Word) (rest : List Input),
      s.inputs = .access (.write 0x084 .w32 v) :: rest ∧ t.rng = Config.rngInit (v ++ s.seedLo))

/-- R458, R716 (3): left to the engine, a pending `KA_GENERATE` with a legal configuration, or a pending
`KA_ADOPT` whose checks pass, completes exactly when its draws let it finish; otherwise it stays pending
for ever. The turns are the model's choice (log entry 5), and so is that the engine moves while
`inputs = []` (log entry 4). -/
def Obligations.SamplingCompletesExactlyWhenItsDrawsDo : Prop :=
  (∀ s : State, s.inputs = [] → s.pending = some (encode .kaGenerate) →
    cfgLegalGen s.cfgWp.toNat s.cfgWg.toNat s.cfgXmin.toNat s.cfgXmax.toNat = true →
    ((∃ (n : Nat) (t : State), Sys2Proof.core.run n s = .next t ∧ t.pending = none) ↔
      ∃ left : Nat, (sampleGenerate Config.rngNext s.cfgWp.toNat s.cfgWg.toNat s.cfgXmin.toNat
        s.cfgXmax.toNat left s.rng).isSome = true)) ∧
  (∀ s : State, s.inputs = [] → s.pending = some (encode .kaAdopt) →
    cfgLegalAdopt s.cfgWp.toNat s.cfgXmin.toNat s.cfgXmax.toNat = true →
    1 < s.op0.toNat → s.op0.toNat < s.op2.toNat → s.op2.toNat % 2 = 1 →
    s.op2.toNat < 2 ^ s.cfgWp.toNat →
    ((∃ (n : Nat) (t : State), Sys2Proof.core.run n s = .next t ∧ t.pending = none) ↔
      ∃ left : Nat,
        (sampleX Config.rngNext s.cfgXmin.toNat s.cfgXmax.toNat left s.rng).isSome = true))

/-! ## Properties of the cipher -/

/-- R504: decryption undoes encryption, whatever the tables. -/
def Obligations.DecBlockUndoesEncBlock : Prop :=
  ∀ (P : PArray) (S : SBoxes) (b : Word × Word), decBlock P S (encBlock P S b) = b

/-- R505: the first loop of the key schedule, in closed form: `P[i]` is mixed with key bytes `4i` to
`4i + 3` taken cyclically, the first most significant. -/
def Obligations.KeyIsMixedInCyclically : Prop :=
  ∀ (key : Vector Byte 56) (n : Nat) (P : PArray) (hn : 1 ≤ n) (hm : n ≤ 56) (i : Fin 18),
    have h : ∀ j : Nat, j % n < 56 := fun j => Nat.lt_of_lt_of_le (Nat.mod_lt j hn) hm
    (mixKey key n P)[i] = P[i] ^^^
      (key[(4 * i.val) % n]'(h _) ++ key[(4 * i.val + 1) % n]'(h _) ++
       key[(4 * i.val + 2) % n]'(h _) ++ key[(4 * i.val + 3) % n]'(h _))

/-- R520 (corner cases), R505: keys that repeat to the same byte sequence give the same schedule; so the
key bytes from `n` on are ignored, and a 1-byte key equals its repetition. -/
def Obligations.CyclicKeysGiveOneSchedule : Prop :=
  ∀ (k1 k2 : Vector Byte 56) (n1 n2 : Nat), 1 ≤ n1 → n1 ≤ 56 → 1 ≤ n2 → n2 ≤ 56 →
    (∀ i : Nat, k1[i % n1]? = k2[i % n2]?) → keySchedule k1 n1 = keySchedule k2 n2

/-- R528 (1), (2): with a schedule held and a length that is a multiple of 8 and at most 1024,
`BF_ENCRYPT` and then `BF_DECRYPT` restores every byte of `BUF` and leaves the length as it was. -/
def Obligations.DecryptRestoresWhatEncryptTransformed : Prop :=
  ∀ s : State, s.bfKeyed = true → s.bfLen.toNat % 8 = 0 → s.bfLen.toNat ≤ 1024 →
    ∃ t u : State, exec .bfEncrypt s = .next t ∧ t.errcode = .ok ∧
      exec .bfDecrypt (t.accept (encode .bfDecrypt)) = .next u ∧ u.errcode = .ok ∧
      (∀ i : Nat, u.bufByte i = s.bufByte i) ∧ t.bfLen = s.bfLen ∧ u.bfLen = s.bfLen

/-- R528 (3), R507: block `k` of the output depends only on block `k` of the input and on the key
schedule; so equal plaintext blocks give equal ciphertext blocks. -/
def Obligations.BlocksAreTransformedIndependently : Prop :=
  ∀ (s1 s2 t1 t2 : State) (k1 k2 : Nat), s1.bfKeyed = true → s2.bfKeyed = true →
    s1.bfP = s2.bfP → s1.bfS = s2.bfS →
    s1.bfLen.toNat % 8 = 0 → s1.bfLen.toNat ≤ 1024 → s2.bfLen.toNat % 8 = 0 →
    s2.bfLen.toNat ≤ 1024 → k1 < s1.bfLen.toNat / 8 → k2 < s2.bfLen.toNat / 8 →
    (∀ j : Nat, j < 8 → s1.bufByte (8 * k1 + j) = s2.bufByte (8 * k2 + j)) →
    (exec .bfEncrypt s1 = .next t1 → exec .bfEncrypt s2 = .next t2 →
      ∀ j : Nat, j < 8 → t1.bufByte (8 * k1 + j) = t2.bufByte (8 * k2 + j)) ∧
    (exec .bfDecrypt s1 = .next t1 → exec .bfDecrypt s2 = .next t2 →
      ∀ j : Nat, j < 8 → t1.bufByte (8 * k1 + j) = t2.bufByte (8 * k2 + j))

/-! ## Completion, errors and the interrupt -/

/-- R600: a turn of the engine ends the command, with `BUSY = 0`, `DONE = 1` and `ERR` telling whether the
code is other than `OK`; only `KA_GENERATE` and `KA_ADOPT` can be left pending, with nothing of the unit
changed (the count of turns is the model's, log entry 5). -/
def Obligations.CompletionSetsTheFlags : Prop :=
  ∀ (i : Instr) (s t : State) (w : Word), s.pending = some w → exec i s = .next t →
    (t.busy = false ∧ t.done = true ∧ t.err = decide (t.errcode ≠ .ok)) ∨
    ((i = .kaGenerate ∨ i = .kaAdopt) ∧ t = { s with samplingTurns := s.samplingTurns + 1 })

/-- R602: a command that ends with a code other than `OK` changes only the completion fields. -/
def Obligations.FailedCommandChangesNothingElse : Prop :=
  ∀ (i : Instr) (s t : State) (w : Word), s.pending = some w → exec i s = .next t →
    t.pending = none → t.errcode ≠ .ok →
    t = { s with pending := none, done := true, errcode := t.errcode, samplingTurns := 0 }

/-- R104, R603, R214, R500: no command writes an operand, configuration, length or key register, the
interrupt enable, `OVR`, `LASTOP` or `SEED_LO`; only the two cipher commands write `BUF`, and only
`BF_KEYSCHED` and `BF_CLEAR` the Blowfish context. -/
def Obligations.CommandsLeaveTheirInputsAlone : Prop :=
  ∀ (i : Instr) (s t : State), exec i s = .next t →
    t.op0 = s.op0 ∧ t.op1 = s.op1 ∧ t.op2 = s.op2 ∧ t.cfgWp = s.cfgWp ∧ t.cfgWg = s.cfgWg ∧
    t.cfgXmin = s.cfgXmin ∧ t.cfgXmax = s.cfgXmax ∧ t.bfKeylen = s.bfKeylen ∧ t.bfLen = s.bfLen ∧
    t.key = s.key ∧ t.ie = s.ie ∧ t.ovr = s.ovr ∧ t.lastop = s.lastop ∧ t.seedLo = s.seedLo ∧
    (i ≠ .bfEncrypt → i ≠ .bfDecrypt → t.buf = s.buf) ∧
    (i ≠ .bfKeysched → i ≠ .bfClear → t.bfP = s.bfP ∧ t.bfS = s.bfS ∧ t.bfKeyed = s.bfKeyed)

/-- R716 (2): every accepted word but `KA_GENERATE` and `KA_ADOPT`, legal or not, completes in one turn
of the engine. That a turn comes when no input is left is the model's choice (log entry 4). -/
def Obligations.OtherCommandsCompleteInOneTurn : Prop :=
  ∀ (s : State) (w : Word), s.pending = some w → w ≠ encode .kaGenerate → w ≠ encode .kaAdopt →
    s.inputs = [] → ∃ t : State, step s = .next t ∧ t.pending = none ∧ t.done = true

/-- R717: no result depends on how long a command takes. A host access that falls between the acceptance
of a command and its completion leaves the command's result the same. -/
def Obligations.ResultsDoNotDependOnTiming : Prop :=
  ∀ (i : Instr) (a : Access) (s s' t t' : State), s.busy = true → hostAccess s a = .next s' →
    exec i s = .next t → exec i s' = .next t' → s.SameUnit s' ∧ t.SameUnit t'

/-- R610: `IRQ = CTRL.IE AND STATUS.DONE`, and what raises and lowers it: a completion with `IE = 1`
raises it whatever the code, acceptance lowers it, reset leaves it low, and a write to `STATUS` or `CTRL`
acts through the two bits. Any other access, dropped and bad ones too, leaves it as it is. -/
def Obligations.InterruptFollowsEnableAndDone : Prop :=
  (∀ s : State, s.irq = (s.ie && s.done)) ∧
  (∀ (i : Instr) (s t : State) (w : Word), s.pending = some w → exec i s = .next t →
    t.pending = none → s.ie = true → t.irq = true) ∧
  (∀ (s t : State) (w : Word), s.busy = false → hostAccess s (.write 0x010 .w32 w) = .next t →
    t.irq = false) ∧
  (∀ (s t : State) (v : Word), hostAccess s (.write 0x00C .w32 v) = .next t →
    t.irq = (s.irq && !v.getLsbD 1)) ∧
  (∀ (s t : State) (v : Word), hostAccess s (.write 0x008 .w32 v) = .next t →
    t.irq = (v.getLsbD 0 && s.done)) ∧
  (∀ s : State, s.resetUnit.irq = false) ∧
  (∀ (s t : State) (off : Int) (w : Width), hostAccess s (.read off w) = .next t → t.irq = s.irq) ∧
  (∀ (s t : State) (off : Int) (w : Width) (v : Word),
    (w = .w32 → off ≠ 0x008 ∧ off ≠ 0x00C ∧ (off ≠ 0x010 ∨ s.busy = true)) →
    hostAccess s (.write off w v) = .next t → t.irq = s.irq)

/-! ## The host interface -/

/-- R106, R601: the fields of `STATUS` as the host reads it, and the value of each completion code in
`ERRCODE`. -/
def Obligations.StatusFieldsReadBack : Prop :=
  ∀ s : State,
    s.readReg (regAt 0x00C) = s.statusWord ∧
    s.statusWord.getLsbD 0 = s.pending.isSome ∧ s.statusWord.getLsbD 1 = s.done ∧
    s.statusWord.getLsbD 2 = decide (s.errcode ≠ .ok) ∧ s.statusWord.getLsbD 3 = s.ovr ∧
    s.statusWord.getLsbD 4 = decide (s.kaState = .ready) ∧ s.statusWord.getLsbD 5 = s.bfKeyed ∧
    s.statusWord.extractLsb' 6 2 = 0#2 ∧ s.statusWord.extractLsb' 8 8 = s.errcode.toByte ∧
    s.statusWord.extractLsb' 16 8 = s.lastop ∧ s.statusWord.extractLsb' 24 8 = 0#8 ∧
    s.statusWord.extractLsb' 8 8 = (match s.errcode with
      | .ok => 0x00#8
      | .invalidParameters => 0x01#8
      | .notInitialized => 0x02#8
      | .invalidPeerShare => 0x03#8
      | .invalidKey => 0x04#8
      | .invalidBlockSize => 0x05#8
      | .cipherFailure => 0x06#8
      | .illegalCommand => 0x10#8
      | .invalidConfig => 0x11#8
      | .operandRange => 0x12#8
      | .lengthRange => 0x13#8)

/-- R305: a `CMD` write is accepted when `BUSY = 0`, whether the word is legal or not, and dropped when
`BUSY = 1`. That the bus answers a dropped write as any other is the model's choice (log entry 10). -/
def Obligations.CommandWriteIsAcceptedOrDropped : Prop :=
  (∀ (s : State) (w : Word), s.pending = none →
    hostAccess s (.write 0x010 .w32 w) = .next { s with
      pending := some w, done := false, errcode := .ok, lastop := BitVec.ofNat 8 w.toNat,
      samplingTurns := 0, response := .written }) ∧
  (∀ (s : State) (w w' : Word), s.pending = some w' →
    hostAccess s (.write 0x010 .w32 w) = .next { s with ovr := true, response := .written }) ∧
  (∀ (s t : State) (w : Word), s.pending = none → hostAccess s (.write 0x010 .w32 w) = .next t →
    t.busy = true ∧ t.err = false)

/-- R710: while `BUSY = 1` every good write to an offset other than `CTRL` and `STATUS` is dropped: it
sets `OVR` and has no other effect on the unit. Writes to `CTRL` and `STATUS` act. That the bus answers a
dropped write as any other is the model's choice (log entry 10). -/
def Obligations.BusyWritesAreDropped : Prop :=
  (∀ (s : State) (off : Nat) (w : Width) (v : Word), s.busy = true → off < 0x800 →
    goodAccess off w = true → off ≠ 0x008 → off ≠ 0x00C →
    hostAccess s (.write (off : Int) w v) = .next { s with ovr := true, response := .written }) ∧
  (∀ (s : State) (v : Word),
    hostAccess s (.write 0x008 .w32 v) = .next { s with ie := v.getLsbD 0, response := .written } ∧
    hostAccess s (.write 0x00C .w32 v) = .next { s with
      done := (s.done && !v.getLsbD 1), ovr := (s.ovr && !v.getLsbD 3), response := .written })

/-- R205, R206, R207: which accesses are bad, and that a bad access gets a bus error and changes no state
of the unit. The value of a bad read is free; the count of free values is the model's (log entry 6). -/
def Obligations.BadAccessGetsABusError : Prop :=
  ∀ (s : State) (off : Nat) (w : Width) (v : Word), off < 0x800 →
    ((off < 0x400 ∧ (w ≠ .w32 ∨ off % 4 ≠ 0)) ∨ (0x400 ≤ off ∧ off % w.bytes ≠ 0)) →
    (∃ x : Word, hostAccess s (.read (off : Int) w) = .next { s with
      response := .busError (some x), freeReads := s.freeReads + 1 }) ∧
    hostAccess s (.write (off : Int) w v) = .next { s with response := .busError none }

/-- R208, R213: no read changes any state of the unit, and reading a register twice gives the same. -/
def Obligations.ReadsHaveNoSideEffect : Prop :=
  (∀ (s t : State) (off : Int) (w : Width), hostAccess s (.read off w) = .next t →
    t = { s with response := t.response, freeReads := t.freeReads }) ∧
  (∀ (s : State) (off : Nat), off < 0x400 → off % 4 = 0 →
    ∃ x : Word, hostAccess s (.read (off : Int) .w32) = .next { s with response := .data .w32 x } ∧
      ∀ r : Response, hostAccess { s with response := r } (.read (off : Int) .w32) =
        .next { s with response := .data .w32 x })

/-- R104, R110, R111, R112, R115, R116, R209: a RW register reads back what was written last, with the
reserved bits 0; and a write to a configuration or length register sets that register, or that half of it,
and nothing else. -/
def Obligations.RegistersReadBackWhatWasWritten : Prop :=
  (∀ (s : State) (off mask : Nat) (v : Word), s.busy = false →
    (off, mask) ∈ [(0x008, 1), (0x020, 32), (0x024, 32), (0x028, 32), (0x02C, 32), (0x030, 32),
      (0x034, 32), (0x060, 7), (0x064, 7), (0x068, 32), (0x06C, 32), (0x070, 32), (0x074, 32),
      (0x090, 8), (0x094, 32)] →
    ∃ t : State, hostAccess s (.write (off : Int) .w32 v) = .next t ∧
      hostAccess t (.read (off : Int) .w32) = .next { t with
        response := .data .w32 (BitVec.ofNat 32 (v.toNat % 2 ^ mask)) }) ∧
  (∀ (s : State) (v : Word), s.busy = false →
    hostAccess s (.write 0x060 .w32 v) = .next { s with
      cfgWp := v.extractLsb' 0 7, response := .written } ∧
    hostAccess s (.write 0x064 .w32 v) = .next { s with
      cfgWg := v.extractLsb' 0 7, response := .written } ∧
    hostAccess s (.write 0x068 .w32 v) = .next { s with
      cfgXmin := hiHalf s.cfgXmin ++ v, response := .written } ∧
    hostAccess s (.write 0x06C .w32 v) = .next { s with
      cfgXmin := v ++ loHalf s.cfgXmin, response := .written } ∧
    hostAccess s (.write 0x070 .w32 v) = .next { s with
      cfgXmax := hiHalf s.cfgXmax ++ v, response := .written } ∧
    hostAccess s (.write 0x074 .w32 v) = .next { s with
      cfgXmax := v ++ loHalf s.cfgXmax, response := .written } ∧
    hostAccess s (.write 0x090 .w32 v) = .next { s with
      bfKeylen := v.extractLsb' 0 8, response := .written } ∧
    hostAccess s (.write 0x094 .w32 v) = .next { s with bfLen := v, response := .written })

/-- R104, R203: writing one half of an operand register leaves the other half and every other register
alone. -/
def Obligations.OperandHalvesAreWrittenAlone : Prop :=
  ∀ (s : State) (v : Word), s.busy = false →
    hostAccess s (.write 0x020 .w32 v) = .next { s with
      op0 := hiHalf s.op0 ++ v, response := .written } ∧
    hostAccess s (.write 0x024 .w32 v) = .next { s with
      op0 := v ++ loHalf s.op0, response := .written } ∧
    hostAccess s (.write 0x028 .w32 v) = .next { s with
      op1 := hiHalf s.op1 ++ v, response := .written } ∧
    hostAccess s (.write 0x02C .w32 v) = .next { s with
      op1 := v ++ loHalf s.op1, response := .written } ∧
    hostAccess s (.write 0x030 .w32 v) = .next { s with
      op2 := hiHalf s.op2 ++ v, response := .written } ∧
    hostAccess s (.write 0x034 .w32 v) = .next { s with
      op2 := v ++ loHalf s.op2, response := .written }

/-- R101, R102, R108, R109, R113, R124, R203, R208: writes to read-only registers and to reserved offsets
are ignored, reserved and write-only offsets read 0, and each read-only register reads its value. -/
def Obligations.ReadOnlyAndReservedOffsets : Prop :=
  (∀ (s : State) (off : Nat) (v : Word), off % 4 = 0 →
    let reserved := (0x014 ≤ off ∧ off ≤ 0x01C) ∨ (0x038 ≤ off ∧ off ≤ 0x03C) ∨ off = 0x05C ∨
      off = 0x07C ∨ (0x088 ≤ off ∧ off ≤ 0x08C) ∨ (0x098 ≤ off ∧ off ≤ 0x0FC) ∨
      (0x138 ≤ off ∧ off ≤ 0x3FC)
    let readOnly := off = 0x000 ∨ off = 0x004 ∨ (0x040 ≤ off ∧ off ≤ 0x058) ∨ off = 0x078
    let writeOnly := off = 0x010 ∨ off = 0x080 ∨ off = 0x084 ∨ (0x100 ≤ off ∧ off ≤ 0x134)
    (reserved ∨ readOnly → s.busy = false →
      hostAccess s (.write (off : Int) .w32 v) = .next { s with response := .written }) ∧
    (reserved ∨ writeOnly →
      hostAccess s (.read (off : Int) .w32) = .next { s with response := .data .w32 0 })) ∧
  (∀ s : State,
    hostAccess s (.read 0x000 .w32) = .next { s with response := .data .w32 0x4A580405#32 } ∧
    hostAccess s (.read 0x004 .w32) = .next { s with response := .data .w32 0x00000007#32 } ∧
    hostAccess s (.read 0x040 .w32) = .next { s with response := .data .w32 (loHalf s.res0) } ∧
    hostAccess s (.read 0x044 .w32) = .next { s with response := .data .w32 (hiHalf s.res0) } ∧
    hostAccess s (.read 0x048 .w32) = .next { s with response := .data .w32 (loHalf s.res1) } ∧
    hostAccess s (.read 0x04C .w32) = .next { s with response := .data .w32 (hiHalf s.res1) } ∧
    hostAccess s (.read 0x050 .w32) = .next { s with response := .data .w32 (loHalf s.res2) } ∧
    hostAccess s (.read 0x054 .w32) = .next { s with response := .data .w32 (hiHalf s.res2) } ∧
    hostAccess s (.read 0x058 .w32) = .next { s with
      response := .data .w32 (0#24 ++ s.resLen) } ∧
    hostAccess s (.read 0x078 .w32) = .next { s with response := .data .w32 12#32 })

/-- R114: seeding. The `LO` write sets the latch alone; the `HI` write seeds with the latched half and
leaves the latch; both registers read 0. -/
def Obligations.SeedHiWriteSeedsTheEntropySource : Prop :=
  (∀ (s : State) (v : Word), s.busy = false →
    hostAccess s (.write 0x080 .w32 v) = .next { s with seedLo := v, response := .written } ∧
    hostAccess s (.write 0x084 .w32 v) = .next { s with
      rng := Config.rngInit (v ++ s.seedLo), response := .written }) ∧
  (∀ s : State,
    hostAccess s (.read 0x080 .w32) = .next { s with response := .data .w32 0 } ∧
    hostAccess s (.read 0x084 .w32) = .next { s with response := .data .w32 0 }) ∧
  State.reset.seedLo = 0

/-- R117: a write to `BF_KEYj` sets key bytes `4j` to `4j + 3`, the lowest byte of the value first, and no
other; the register reads 0; no command changes the key bytes. -/
def Obligations.KeyRegistersTakeFourBytes : Prop :=
  ∀ (s : State) (j : Fin 14) (v : Word),
    (s.busy = false → ∃ k : Vector Byte 56,
      hostAccess s (.write ((0x100 + 4 * j.val : Nat) : Int) .w32 v) =
        .next { s with key := k, response := .written } ∧
      ∀ i : Nat, (h : i < 56) → k[i] =
        if i / 4 = j.val then BitVec.ofNat 8 (v.toNat / 2 ^ (8 * (i % 4))) else s.key[i]) ∧
    hostAccess s (.read ((0x100 + 4 * j.val : Nat) : Int) .w32) =
      .next { s with response := .data .w32 0 }

/-- R210, R15, R202: while no command is pending, a good buffer write of `n` bytes sets exactly those
bytes, little-endian, and a read of the same width and place gives the value's low bytes back. -/
def Obligations.BufferWritesReadBack : Prop :=
  ∀ (s : State) (a : Nat) (w : Width) (v : Word), s.busy = false → a < 0x400 → a % w.bytes = 0 →
    ∃ m : Memory,
      hostAccess s (.write ((0x400 + a : Nat) : Int) w v) =
        .next { s with buf := m, response := .written } ∧
      (∀ i : Nat, i < w.bytes →
        m.byte s.resets (a + i) = BitVec.ofNat 8 (v.toNat / 2 ^ (8 * i))) ∧
      (∀ i : Nat, (i < a ∨ a + w.bytes ≤ i) → m.byte s.resets i = s.buf.byte s.resets i) ∧
      hostAccess { s with buf := m } (.read ((0x400 + a : Nat) : Int) w) = .next { s with
        buf := m, response := .data w (BitVec.ofNat 32 (v.toNat % 2 ^ (8 * w.bytes))) }

/-- R211, R714: a good buffer read gives the current contents, unless `BF_ENCRYPT` or `BF_DECRYPT` is
pending; then it gives a free value and changes nothing of the unit. The count of free values is the
model's (log entry 6). -/
def Obligations.BufferReadsDuringCommands : Prop :=
  ∀ (s : State) (a : Nat) (w : Width), a < 0x400 → a % w.bytes = 0 →
    ((s.pending ≠ some (encode .bfEncrypt) ∧ s.pending ≠ some (encode .bfDecrypt)) →
      hostAccess s (.read ((0x400 + a : Nat) : Int) w) = .next { s with
        response := .data w (BitVec.ofNat 32 (s.memRead a w.bytes)) }) ∧
    ((s.pending = some (encode .bfEncrypt) ∨ s.pending = some (encode .bfDecrypt)) →
      ∃ x : Word, hostAccess s (.read ((0x400 + a : Nat) : Int) w) = .next { s with
        response := .data w x, freeReads := s.freeReads + 1 })

/-- R119, R122, R616: what the host reads does not depend on the secret state: `KA_X`, the key schedule's
words and the key bytes. -/
def Obligations.SecretsNeverReachTheBus : Prop :=
  ∀ (s t t' : State) (x : DWord) (P : PArray) (S : SBoxes) (k : Vector Byte 56) (off : Int)
    (w : Width),
    hostAccess s (.read off w) = .next t →
    hostAccess { s with kaX := x, bfP := P, bfS := S, key := k } (.read off w) = .next t' →
    t.response = t'.response

/-- R201: an access outside the window is not decoded by the unit. That the model then stops with a fault
is the model's choice (log entry 7). -/
def Obligations.AccessOutsideTheWindowFaults : Prop :=
  ∀ (s : State) (off : Int) (w : Width) (v : Word), (off < 0 ∨ 0x800 ≤ off) →
    hostAccess s (.read off w) = .fault .outsideWindow ∧
    hostAccess s (.write off w v) = .fault .outsideWindow

/-! ## Reset and the invariant -/

/-- R700: the state after reset. `RNG_STATE` and `BUF` are free; the model's own fields start as log
entries 4, 5, 6 and 8 say. -/
def Obligations.ResetState : Prop :=
  State.reset.ie = false ∧ State.reset.statusWord = 0 ∧ State.reset.pending = none ∧
  State.reset.op0 = 0 ∧ State.reset.op1 = 0 ∧ State.reset.op2 = 0 ∧
  State.reset.res0 = 0 ∧ State.reset.res1 = 0 ∧ State.reset.res2 = 0 ∧ State.reset.resLen = 0 ∧
  State.reset.cfgWp = 63 ∧ State.reset.cfgWg = 3 ∧ State.reset.cfgXmin = 1 ∧
  State.reset.cfgXmax = 10 ∧ State.reset.seedLo = 0 ∧ State.reset.bfKeylen = 0 ∧
  State.reset.bfLen = 0 ∧ (∀ i : Fin 56, State.reset.key[i] = 0) ∧
  State.reset.kaState = .empty ∧ State.reset.kaP = 0 ∧ State.reset.kaG = 0 ∧
  State.reset.kaX = 0 ∧ State.reset.kaA = 0 ∧ State.reset.kaWp = 0 ∧
  (∀ i : Fin 18, State.reset.bfP[i] = 0) ∧
  (∀ (i : Fin 4) (j : Fin 256), State.reset.bfS[i][j] = 0) ∧ State.reset.bfKeyed = false ∧
  State.reset.irq = false ∧
  State.reset.readReg (regAt 0x000) = 0x4A580405#32 ∧
  State.reset.readReg (regAt 0x004) = 0x00000007#32 ∧
  State.reset.readReg (regAt 0x078) = 12#32

/-- R700, R702: a reset gives the same state whatever the state before it, but for the free draws; a
pending command is abandoned and none of its writes take effect. -/
def Obligations.ResetAbandonsThePendingCommand : Prop :=
  ∀ (s : State) (rest : List Input), s.inputs = .reset :: rest →
    ∃ t : State, step s = .next t ∧ t.pending = none ∧ t.done = false ∧ t.irq = false ∧
      t = { State.reset with
        rng := t.rng, resets := t.resets, freeReads := t.freeReads, inputs := rest }

/-- The invariant holds after reset. -/
def Obligations.InvariantHoldsAtReset : Prop := State.reset.Inv

/-- Every step keeps the invariant: `BUF` stays canonical, the context in `Ready` satisfies R121, the key
schedule is zero or that of an accepted key (R122), and the status fields of a pending command stay as
R106 and R305 say. -/
def Obligations.EveryStepKeepsTheInvariant : Prop :=
  ∀ s t : State, s.Inv → step s = .next t → t.Inv
end

