-- ==== Sys2Proof/Laws/State.lean ====
section
/-! SUPPORT. One lemma per field for each named update of the state, so that no proof unfolds a record
update. -/

namespace Sys2Proof.Machine

variable (s : State)

/-! ### `State.accept` -/

@[simp] theorem State.accept_ie (w : Word) : (s.accept w).ie = s.ie := rfl
@[simp] theorem State.accept_done (w : Word) : (s.accept w).done = false := rfl
@[simp] theorem State.accept_ovr (w : Word) : (s.accept w).ovr = s.ovr := rfl
@[simp] theorem State.accept_errcode (w : Word) : (s.accept w).errcode = .ok := rfl
@[simp] theorem State.accept_lastop (w : Word) : (s.accept w).lastop = opcField w := rfl
@[simp] theorem State.accept_pending (w : Word) : (s.accept w).pending = some w := rfl
@[simp] theorem State.accept_op0 (w : Word) : (s.accept w).op0 = s.op0 := rfl
@[simp] theorem State.accept_op1 (w : Word) : (s.accept w).op1 = s.op1 := rfl
@[simp] theorem State.accept_op2 (w : Word) : (s.accept w).op2 = s.op2 := rfl
@[simp] theorem State.accept_res0 (w : Word) : (s.accept w).res0 = s.res0 := rfl
@[simp] theorem State.accept_res1 (w : Word) : (s.accept w).res1 = s.res1 := rfl
@[simp] theorem State.accept_res2 (w : Word) : (s.accept w).res2 = s.res2 := rfl
@[simp] theorem State.accept_resLen (w : Word) : (s.accept w).resLen = s.resLen := rfl
@[simp] theorem State.accept_cfgWp (w : Word) : (s.accept w).cfgWp = s.cfgWp := rfl
@[simp] theorem State.accept_cfgWg (w : Word) : (s.accept w).cfgWg = s.cfgWg := rfl
@[simp] theorem State.accept_cfgXmin (w : Word) : (s.accept w).cfgXmin = s.cfgXmin := rfl
@[simp] theorem State.accept_cfgXmax (w : Word) : (s.accept w).cfgXmax = s.cfgXmax := rfl
@[simp] theorem State.accept_seedLo (w : Word) : (s.accept w).seedLo = s.seedLo := rfl
@[simp] theorem State.accept_rng (w : Word) : (s.accept w).rng = s.rng := rfl
@[simp] theorem State.accept_bfKeylen (w : Word) : (s.accept w).bfKeylen = s.bfKeylen := rfl
@[simp] theorem State.accept_bfLen (w : Word) : (s.accept w).bfLen = s.bfLen := rfl
@[simp] theorem State.accept_key (w : Word) : (s.accept w).key = s.key := rfl
@[simp] theorem State.accept_buf (w : Word) : (s.accept w).buf = s.buf := rfl
@[simp] theorem State.accept_kaState (w : Word) : (s.accept w).kaState = s.kaState := rfl
@[simp] theorem State.accept_kaP (w : Word) : (s.accept w).kaP = s.kaP := rfl
@[simp] theorem State.accept_kaG (w : Word) : (s.accept w).kaG = s.kaG := rfl
@[simp] theorem State.accept_kaX (w : Word) : (s.accept w).kaX = s.kaX := rfl
@[simp] theorem State.accept_kaA (w : Word) : (s.accept w).kaA = s.kaA := rfl
@[simp] theorem State.accept_kaWp (w : Word) : (s.accept w).kaWp = s.kaWp := rfl
@[simp] theorem State.accept_bfP (w : Word) : (s.accept w).bfP = s.bfP := rfl
@[simp] theorem State.accept_bfS (w : Word) : (s.accept w).bfS = s.bfS := rfl
@[simp] theorem State.accept_bfKeyed (w : Word) : (s.accept w).bfKeyed = s.bfKeyed := rfl
@[simp] theorem State.accept_inputs (w : Word) : (s.accept w).inputs = s.inputs := rfl
@[simp] theorem State.accept_response (w : Word) : (s.accept w).response = s.response := rfl
@[simp] theorem State.accept_samplingTurns (w : Word) : (s.accept w).samplingTurns = 0 := rfl
@[simp] theorem State.accept_freeReads (w : Word) : (s.accept w).freeReads = s.freeReads := rfl
@[simp] theorem State.accept_resets (w : Word) : (s.accept w).resets = s.resets := rfl

/-! ### `State.complete` -/

@[simp] theorem State.complete_ie (c : ErrorCode) : (s.complete c).ie = s.ie := rfl
@[simp] theorem State.complete_done (c : ErrorCode) : (s.complete c).done = true := rfl
@[simp] theorem State.complete_ovr (c : ErrorCode) : (s.complete c).ovr = s.ovr := rfl
@[simp] theorem State.complete_errcode (c : ErrorCode) : (s.complete c).errcode = c := rfl
@[simp] theorem State.complete_lastop (c : ErrorCode) : (s.complete c).lastop = s.lastop := rfl
@[simp] theorem State.complete_pending (c : ErrorCode) : (s.complete c).pending = none := rfl
@[simp] theorem State.complete_op0 (c : ErrorCode) : (s.complete c).op0 = s.op0 := rfl
@[simp] theorem State.complete_op1 (c : ErrorCode) : (s.complete c).op1 = s.op1 := rfl
@[simp] theorem State.complete_op2 (c : ErrorCode) : (s.complete c).op2 = s.op2 := rfl
@[simp] theorem State.complete_res0 (c : ErrorCode) : (s.complete c).res0 = s.res0 := rfl
@[simp] theorem State.complete_res1 (c : ErrorCode) : (s.complete c).res1 = s.res1 := rfl
@[simp] theorem State.complete_res2 (c : ErrorCode) : (s.complete c).res2 = s.res2 := rfl
@[simp] theorem State.complete_resLen (c : ErrorCode) : (s.complete c).resLen = s.resLen := rfl
@[simp] theorem State.complete_cfgWp (c : ErrorCode) : (s.complete c).cfgWp = s.cfgWp := rfl
@[simp] theorem State.complete_cfgWg (c : ErrorCode) : (s.complete c).cfgWg = s.cfgWg := rfl
@[simp] theorem State.complete_cfgXmin (c : ErrorCode) : (s.complete c).cfgXmin = s.cfgXmin := rfl
@[simp] theorem State.complete_cfgXmax (c : ErrorCode) : (s.complete c).cfgXmax = s.cfgXmax := rfl
@[simp] theorem State.complete_seedLo (c : ErrorCode) : (s.complete c).seedLo = s.seedLo := rfl
@[simp] theorem State.complete_rng (c : ErrorCode) : (s.complete c).rng = s.rng := rfl
@[simp] theorem State.complete_bfKeylen (c : ErrorCode) : (s.complete c).bfKeylen = s.bfKeylen := rfl
@[simp] theorem State.complete_bfLen (c : ErrorCode) : (s.complete c).bfLen = s.bfLen := rfl
@[simp] theorem State.complete_key (c : ErrorCode) : (s.complete c).key = s.key := rfl
@[simp] theorem State.complete_buf (c : ErrorCode) : (s.complete c).buf = s.buf := rfl
@[simp] theorem State.complete_kaState (c : ErrorCode) : (s.complete c).kaState = s.kaState := rfl
@[simp] theorem State.complete_kaP (c : ErrorCode) : (s.complete c).kaP = s.kaP := rfl
@[simp] theorem State.complete_kaG (c : ErrorCode) : (s.complete c).kaG = s.kaG := rfl
@[simp] theorem State.complete_kaX (c : ErrorCode) : (s.complete c).kaX = s.kaX := rfl
@[simp] theorem State.complete_kaA (c : ErrorCode) : (s.complete c).kaA = s.kaA := rfl
@[simp] theorem State.complete_kaWp (c : ErrorCode) : (s.complete c).kaWp = s.kaWp := rfl
@[simp] theorem State.complete_bfP (c : ErrorCode) : (s.complete c).bfP = s.bfP := rfl
@[simp] theorem State.complete_bfS (c : ErrorCode) : (s.complete c).bfS = s.bfS := rfl
@[simp] theorem State.complete_bfKeyed (c : ErrorCode) : (s.complete c).bfKeyed = s.bfKeyed := rfl
@[simp] theorem State.complete_inputs (c : ErrorCode) : (s.complete c).inputs = s.inputs := rfl
@[simp] theorem State.complete_response (c : ErrorCode) : (s.complete c).response = s.response := rfl
@[simp] theorem State.complete_samplingTurns (c : ErrorCode) : (s.complete c).samplingTurns = 0 := rfl
@[simp] theorem State.complete_freeReads (c : ErrorCode) : (s.complete c).freeReads = s.freeReads := rfl
@[simp] theorem State.complete_resets (c : ErrorCode) : (s.complete c).resets = s.resets := rfl

/-! ### `State.memWrite` -/

@[simp] theorem State.memWrite_ie (a n v : Nat) : (s.memWrite a n v).ie = s.ie := rfl
@[simp] theorem State.memWrite_done (a n v : Nat) : (s.memWrite a n v).done = s.done := rfl
@[simp] theorem State.memWrite_ovr (a n v : Nat) : (s.memWrite a n v).ovr = s.ovr := rfl
@[simp] theorem State.memWrite_errcode (a n v : Nat) : (s.memWrite a n v).errcode = s.errcode := rfl
@[simp] theorem State.memWrite_lastop (a n v : Nat) : (s.memWrite a n v).lastop = s.lastop := rfl
@[simp] theorem State.memWrite_pending (a n v : Nat) : (s.memWrite a n v).pending = s.pending := rfl
@[simp] theorem State.memWrite_op0 (a n v : Nat) : (s.memWrite a n v).op0 = s.op0 := rfl
@[simp] theorem State.memWrite_op1 (a n v : Nat) : (s.memWrite a n v).op1 = s.op1 := rfl
@[simp] theorem State.memWrite_op2 (a n v : Nat) : (s.memWrite a n v).op2 = s.op2 := rfl
@[simp] theorem State.memWrite_res0 (a n v : Nat) : (s.memWrite a n v).res0 = s.res0 := rfl
@[simp] theorem State.memWrite_res1 (a n v : Nat) : (s.memWrite a n v).res1 = s.res1 := rfl
@[simp] theorem State.memWrite_res2 (a n v : Nat) : (s.memWrite a n v).res2 = s.res2 := rfl
@[simp] theorem State.memWrite_resLen (a n v : Nat) : (s.memWrite a n v).resLen = s.resLen := rfl
@[simp] theorem State.memWrite_cfgWp (a n v : Nat) : (s.memWrite a n v).cfgWp = s.cfgWp := rfl
@[simp] theorem State.memWrite_cfgWg (a n v : Nat) : (s.memWrite a n v).cfgWg = s.cfgWg := rfl
@[simp] theorem State.memWrite_cfgXmin (a n v : Nat) : (s.memWrite a n v).cfgXmin = s.cfgXmin := rfl
@[simp] theorem State.memWrite_cfgXmax (a n v : Nat) : (s.memWrite a n v).cfgXmax = s.cfgXmax := rfl
@[simp] theorem State.memWrite_seedLo (a n v : Nat) : (s.memWrite a n v).seedLo = s.seedLo := rfl
@[simp] theorem State.memWrite_rng (a n v : Nat) : (s.memWrite a n v).rng = s.rng := rfl
@[simp] theorem State.memWrite_bfKeylen (a n v : Nat) : (s.memWrite a n v).bfKeylen = s.bfKeylen := rfl
@[simp] theorem State.memWrite_bfLen (a n v : Nat) : (s.memWrite a n v).bfLen = s.bfLen := rfl
@[simp] theorem State.memWrite_key (a n v : Nat) : (s.memWrite a n v).key = s.key := rfl
@[simp] theorem State.memWrite_buf (a n v : Nat) : (s.memWrite a n v).buf = s.buf.writeLE a n v := rfl
@[simp] theorem State.memWrite_kaState (a n v : Nat) : (s.memWrite a n v).kaState = s.kaState := rfl
@[simp] theorem State.memWrite_kaP (a n v : Nat) : (s.memWrite a n v).kaP = s.kaP := rfl
@[simp] theorem State.memWrite_kaG (a n v : Nat) : (s.memWrite a n v).kaG = s.kaG := rfl
@[simp] theorem State.memWrite_kaX (a n v : Nat) : (s.memWrite a n v).kaX = s.kaX := rfl
@[simp] theorem State.memWrite_kaA (a n v : Nat) : (s.memWrite a n v).kaA = s.kaA := rfl
@[simp] theorem State.memWrite_kaWp (a n v : Nat) : (s.memWrite a n v).kaWp = s.kaWp := rfl
@[simp] theorem State.memWrite_bfP (a n v : Nat) : (s.memWrite a n v).bfP = s.bfP := rfl
@[simp] theorem State.memWrite_bfS (a n v : Nat) : (s.memWrite a n v).bfS = s.bfS := rfl
@[simp] theorem State.memWrite_bfKeyed (a n v : Nat) : (s.memWrite a n v).bfKeyed = s.bfKeyed := rfl
@[simp] theorem State.memWrite_inputs (a n v : Nat) : (s.memWrite a n v).inputs = s.inputs := rfl
@[simp] theorem State.memWrite_response (a n v : Nat) : (s.memWrite a n v).response = s.response := rfl
@[simp] theorem State.memWrite_samplingTurns (a n v : Nat) : (s.memWrite a n v).samplingTurns = s.samplingTurns := rfl
@[simp] theorem State.memWrite_freeReads (a n v : Nat) : (s.memWrite a n v).freeReads = s.freeReads := rfl
@[simp] theorem State.memWrite_resets (a n v : Nat) : (s.memWrite a n v).resets = s.resets := rfl

/-! ### `State.mapBlocks` -/

@[simp] theorem State.mapBlocks_ie (f : Word × Word → Word × Word) (n : Nat) : (s.mapBlocks f n).ie = s.ie := rfl
@[simp] theorem State.mapBlocks_done (f : Word × Word → Word × Word) (n : Nat) : (s.mapBlocks f n).done = s.done := rfl
@[simp] theorem State.mapBlocks_ovr (f : Word × Word → Word × Word) (n : Nat) : (s.mapBlocks f n).ovr = s.ovr := rfl
@[simp] theorem State.mapBlocks_errcode (f : Word × Word → Word × Word) (n : Nat) : (s.mapBlocks f n).errcode = s.errcode := rfl
@[simp] theorem State.mapBlocks_lastop (f : Word × Word → Word × Word) (n : Nat) : (s.mapBlocks f n).lastop = s.lastop := rfl
@[simp] theorem State.mapBlocks_pending (f : Word × Word → Word × Word) (n : Nat) : (s.mapBlocks f n).pending = s.pending := rfl
@[simp] theorem State.mapBlocks_op0 (f : Word × Word → Word × Word) (n : Nat) : (s.mapBlocks f n).op0 = s.op0 := rfl
@[simp] theorem State.mapBlocks_op1 (f : Word × Word → Word × Word) (n : Nat) : (s.mapBlocks f n).op1 = s.op1 := rfl
@[simp] theorem State.mapBlocks_op2 (f : Word × Word → Word × Word) (n : Nat) : (s.mapBlocks f n).op2 = s.op2 := rfl
@[simp] theorem State.mapBlocks_res0 (f : Word × Word → Word × Word) (n : Nat) : (s.mapBlocks f n).res0 = s.res0 := rfl
@[simp] theorem State.mapBlocks_res1 (f : Word × Word → Word × Word) (n : Nat) : (s.mapBlocks f n).res1 = s.res1 := rfl
@[simp] theorem State.mapBlocks_res2 (f : Word × Word → Word × Word) (n : Nat) : (s.mapBlocks f n).res2 = s.res2 := rfl
@[simp] theorem State.mapBlocks_resLen (f : Word × Word → Word × Word) (n : Nat) : (s.mapBlocks f n).resLen = s.resLen := rfl
@[simp] theorem State.mapBlocks_cfgWp (f : Word × Word → Word × Word) (n : Nat) : (s.mapBlocks f n).cfgWp = s.cfgWp := rfl
@[simp] theorem State.mapBlocks_cfgWg (f : Word × Word → Word × Word) (n : Nat) : (s.mapBlocks f n).cfgWg = s.cfgWg := rfl
@[simp] theorem State.mapBlocks_cfgXmin (f : Word × Word → Word × Word) (n : Nat) : (s.mapBlocks f n).cfgXmin = s.cfgXmin := rfl
@[simp] theorem State.mapBlocks_cfgXmax (f : Word × Word → Word × Word) (n : Nat) : (s.mapBlocks f n).cfgXmax = s.cfgXmax := rfl
@[simp] theorem State.mapBlocks_seedLo (f : Word × Word → Word × Word) (n : Nat) : (s.mapBlocks f n).seedLo = s.seedLo := rfl
@[simp] theorem State.mapBlocks_rng (f : Word × Word → Word × Word) (n : Nat) : (s.mapBlocks f n).rng = s.rng := rfl
@[simp] theorem State.mapBlocks_bfKeylen (f : Word × Word → Word × Word) (n : Nat) : (s.mapBlocks f n).bfKeylen = s.bfKeylen := rfl
@[simp] theorem State.mapBlocks_bfLen (f : Word × Word → Word × Word) (n : Nat) : (s.mapBlocks f n).bfLen = s.bfLen := rfl
@[simp] theorem State.mapBlocks_key (f : Word × Word → Word × Word) (n : Nat) : (s.mapBlocks f n).key = s.key := rfl
@[simp] theorem State.mapBlocks_buf (f : Word × Word → Word × Word) (n : Nat) : (s.mapBlocks f n).buf = s.buf.mapBlocks f s.resets 0 n := rfl
@[simp] theorem State.mapBlocks_kaState (f : Word × Word → Word × Word) (n : Nat) : (s.mapBlocks f n).kaState = s.kaState := rfl
@[simp] theorem State.mapBlocks_kaP (f : Word × Word → Word × Word) (n : Nat) : (s.mapBlocks f n).kaP = s.kaP := rfl
@[simp] theorem State.mapBlocks_kaG (f : Word × Word → Word × Word) (n : Nat) : (s.mapBlocks f n).kaG = s.kaG := rfl
@[simp] theorem State.mapBlocks_kaX (f : Word × Word → Word × Word) (n : Nat) : (s.mapBlocks f n).kaX = s.kaX := rfl
@[simp] theorem State.mapBlocks_kaA (f : Word × Word → Word × Word) (n : Nat) : (s.mapBlocks f n).kaA = s.kaA := rfl
@[simp] theorem State.mapBlocks_kaWp (f : Word × Word → Word × Word) (n : Nat) : (s.mapBlocks f n).kaWp = s.kaWp := rfl
@[simp] theorem State.mapBlocks_bfP (f : Word × Word → Word × Word) (n : Nat) : (s.mapBlocks f n).bfP = s.bfP := rfl
@[simp] theorem State.mapBlocks_bfS (f : Word × Word → Word × Word) (n : Nat) : (s.mapBlocks f n).bfS = s.bfS := rfl
@[simp] theorem State.mapBlocks_bfKeyed (f : Word × Word → Word × Word) (n : Nat) : (s.mapBlocks f n).bfKeyed = s.bfKeyed := rfl
@[simp] theorem State.mapBlocks_inputs (f : Word × Word → Word × Word) (n : Nat) : (s.mapBlocks f n).inputs = s.inputs := rfl
@[simp] theorem State.mapBlocks_response (f : Word × Word → Word × Word) (n : Nat) : (s.mapBlocks f n).response = s.response := rfl
@[simp] theorem State.mapBlocks_samplingTurns (f : Word × Word → Word × Word) (n : Nat) : (s.mapBlocks f n).samplingTurns = s.samplingTurns := rfl
@[simp] theorem State.mapBlocks_freeReads (f : Word × Word → Word × Word) (n : Nat) : (s.mapBlocks f n).freeReads = s.freeReads := rfl
@[simp] theorem State.mapBlocks_resets (f : Word × Word → Word × Word) (n : Nat) : (s.mapBlocks f n).resets = s.resets := rfl

/-! ### `State.writeStatus` -/

@[simp] theorem State.writeStatus_ie (v : Word) : (s.writeStatus v).ie = s.ie := rfl
@[simp] theorem State.writeStatus_done (v : Word) : (s.writeStatus v).done = (s.done && !v.getLsbD 1) := rfl
@[simp] theorem State.writeStatus_ovr (v : Word) : (s.writeStatus v).ovr = (s.ovr && !v.getLsbD 3) := rfl
@[simp] theorem State.writeStatus_errcode (v : Word) : (s.writeStatus v).errcode = s.errcode := rfl
@[simp] theorem State.writeStatus_lastop (v : Word) : (s.writeStatus v).lastop = s.lastop := rfl
@[simp] theorem State.writeStatus_pending (v : Word) : (s.writeStatus v).pending = s.pending := rfl
@[simp] theorem State.writeStatus_op0 (v : Word) : (s.writeStatus v).op0 = s.op0 := rfl
@[simp] theorem State.writeStatus_op1 (v : Word) : (s.writeStatus v).op1 = s.op1 := rfl
@[simp] theorem State.writeStatus_op2 (v : Word) : (s.writeStatus v).op2 = s.op2 := rfl
@[simp] theorem State.writeStatus_res0 (v : Word) : (s.writeStatus v).res0 = s.res0 := rfl
@[simp] theorem State.writeStatus_res1 (v : Word) : (s.writeStatus v).res1 = s.res1 := rfl
@[simp] theorem State.writeStatus_res2 (v : Word) : (s.writeStatus v).res2 = s.res2 := rfl
@[simp] theorem State.writeStatus_resLen (v : Word) : (s.writeStatus v).resLen = s.resLen := rfl
@[simp] theorem State.writeStatus_cfgWp (v : Word) : (s.writeStatus v).cfgWp = s.cfgWp := rfl
@[simp] theorem State.writeStatus_cfgWg (v : Word) : (s.writeStatus v).cfgWg = s.cfgWg := rfl
@[simp] theorem State.writeStatus_cfgXmin (v : Word) : (s.writeStatus v).cfgXmin = s.cfgXmin := rfl
@[simp] theorem State.writeStatus_cfgXmax (v : Word) : (s.writeStatus v).cfgXmax = s.cfgXmax := rfl
@[simp] theorem State.writeStatus_seedLo (v : Word) : (s.writeStatus v).seedLo = s.seedLo := rfl
@[simp] theorem State.writeStatus_rng (v : Word) : (s.writeStatus v).rng = s.rng := rfl
@[simp] theorem State.writeStatus_bfKeylen (v : Word) : (s.writeStatus v).bfKeylen = s.bfKeylen := rfl
@[simp] theorem State.writeStatus_bfLen (v : Word) : (s.writeStatus v).bfLen = s.bfLen := rfl
@[simp] theorem State.writeStatus_key (v : Word) : (s.writeStatus v).key = s.key := rfl
@[simp] theorem State.writeStatus_buf (v : Word) : (s.writeStatus v).buf = s.buf := rfl
@[simp] theorem State.writeStatus_kaState (v : Word) : (s.writeStatus v).kaState = s.kaState := rfl
@[simp] theorem State.writeStatus_kaP (v : Word) : (s.writeStatus v).kaP = s.kaP := rfl
@[simp] theorem State.writeStatus_kaG (v : Word) : (s.writeStatus v).kaG = s.kaG := rfl
@[simp] theorem State.writeStatus_kaX (v : Word) : (s.writeStatus v).kaX = s.kaX := rfl
@[simp] theorem State.writeStatus_kaA (v : Word) : (s.writeStatus v).kaA = s.kaA := rfl
@[simp] theorem State.writeStatus_kaWp (v : Word) : (s.writeStatus v).kaWp = s.kaWp := rfl
@[simp] theorem State.writeStatus_bfP (v : Word) : (s.writeStatus v).bfP = s.bfP := rfl
@[simp] theorem State.writeStatus_bfS (v : Word) : (s.writeStatus v).bfS = s.bfS := rfl
@[simp] theorem State.writeStatus_bfKeyed (v : Word) : (s.writeStatus v).bfKeyed = s.bfKeyed := rfl
@[simp] theorem State.writeStatus_inputs (v : Word) : (s.writeStatus v).inputs = s.inputs := rfl
@[simp] theorem State.writeStatus_response (v : Word) : (s.writeStatus v).response = s.response := rfl
@[simp] theorem State.writeStatus_samplingTurns (v : Word) : (s.writeStatus v).samplingTurns = s.samplingTurns := rfl
@[simp] theorem State.writeStatus_freeReads (v : Word) : (s.writeStatus v).freeReads = s.freeReads := rfl
@[simp] theorem State.writeStatus_resets (v : Word) : (s.writeStatus v).resets = s.resets := rfl

/-! ### `State.dropWrite` -/

@[simp] theorem State.dropWrite_ie : s.dropWrite.ie = s.ie := rfl
@[simp] theorem State.dropWrite_done : s.dropWrite.done = s.done := rfl
@[simp] theorem State.dropWrite_ovr : s.dropWrite.ovr = true := rfl
@[simp] theorem State.dropWrite_errcode : s.dropWrite.errcode = s.errcode := rfl
@[simp] theorem State.dropWrite_lastop : s.dropWrite.lastop = s.lastop := rfl
@[simp] theorem State.dropWrite_pending : s.dropWrite.pending = s.pending := rfl
@[simp] theorem State.dropWrite_op0 : s.dropWrite.op0 = s.op0 := rfl
@[simp] theorem State.dropWrite_op1 : s.dropWrite.op1 = s.op1 := rfl
@[simp] theorem State.dropWrite_op2 : s.dropWrite.op2 = s.op2 := rfl
@[simp] theorem State.dropWrite_res0 : s.dropWrite.res0 = s.res0 := rfl
@[simp] theorem State.dropWrite_res1 : s.dropWrite.res1 = s.res1 := rfl
@[simp] theorem State.dropWrite_res2 : s.dropWrite.res2 = s.res2 := rfl
@[simp] theorem State.dropWrite_resLen : s.dropWrite.resLen = s.resLen := rfl
@[simp] theorem State.dropWrite_cfgWp : s.dropWrite.cfgWp = s.cfgWp := rfl
@[simp] theorem State.dropWrite_cfgWg : s.dropWrite.cfgWg = s.cfgWg := rfl
@[simp] theorem State.dropWrite_cfgXmin : s.dropWrite.cfgXmin = s.cfgXmin := rfl
@[simp] theorem State.dropWrite_cfgXmax : s.dropWrite.cfgXmax = s.cfgXmax := rfl
@[simp] theorem State.dropWrite_seedLo : s.dropWrite.seedLo = s.seedLo := rfl
@[simp] theorem State.dropWrite_rng : s.dropWrite.rng = s.rng := rfl
@[simp] theorem State.dropWrite_bfKeylen : s.dropWrite.bfKeylen = s.bfKeylen := rfl
@[simp] theorem State.dropWrite_bfLen : s.dropWrite.bfLen = s.bfLen := rfl
@[simp] theorem State.dropWrite_key : s.dropWrite.key = s.key := rfl
@[simp] theorem State.dropWrite_buf : s.dropWrite.buf = s.buf := rfl
@[simp] theorem State.dropWrite_kaState : s.dropWrite.kaState = s.kaState := rfl
@[simp] theorem State.dropWrite_kaP : s.dropWrite.kaP = s.kaP := rfl
@[simp] theorem State.dropWrite_kaG : s.dropWrite.kaG = s.kaG := rfl
@[simp] theorem State.dropWrite_kaX : s.dropWrite.kaX = s.kaX := rfl
@[simp] theorem State.dropWrite_kaA : s.dropWrite.kaA = s.kaA := rfl
@[simp] theorem State.dropWrite_kaWp : s.dropWrite.kaWp = s.kaWp := rfl
@[simp] theorem State.dropWrite_bfP : s.dropWrite.bfP = s.bfP := rfl
@[simp] theorem State.dropWrite_bfS : s.dropWrite.bfS = s.bfS := rfl
@[simp] theorem State.dropWrite_bfKeyed : s.dropWrite.bfKeyed = s.bfKeyed := rfl
@[simp] theorem State.dropWrite_inputs : s.dropWrite.inputs = s.inputs := rfl
@[simp] theorem State.dropWrite_response : s.dropWrite.response = s.response := rfl
@[simp] theorem State.dropWrite_samplingTurns : s.dropWrite.samplingTurns = s.samplingTurns := rfl
@[simp] theorem State.dropWrite_freeReads : s.dropWrite.freeReads = s.freeReads := rfl
@[simp] theorem State.dropWrite_resets : s.dropWrite.resets = s.resets := rfl

/-! ### `State.installContext` -/

@[simp] theorem State.installContext_ie (p g x : Nat) (wp : BitVec 7) (r : Config.RngState) : (s.installContext p g x wp r).ie = s.ie := rfl
@[simp] theorem State.installContext_done (p g x : Nat) (wp : BitVec 7) (r : Config.RngState) : (s.installContext p g x wp r).done = s.done := rfl
@[simp] theorem State.installContext_ovr (p g x : Nat) (wp : BitVec 7) (r : Config.RngState) : (s.installContext p g x wp r).ovr = s.ovr := rfl
@[simp] theorem State.installContext_errcode (p g x : Nat) (wp : BitVec 7) (r : Config.RngState) : (s.installContext p g x wp r).errcode = s.errcode := rfl
@[simp] theorem State.installContext_lastop (p g x : Nat) (wp : BitVec 7) (r : Config.RngState) : (s.installContext p g x wp r).lastop = s.lastop := rfl
@[simp] theorem State.installContext_pending (p g x : Nat) (wp : BitVec 7) (r : Config.RngState) : (s.installContext p g x wp r).pending = s.pending := rfl
@[simp] theorem State.installContext_op0 (p g x : Nat) (wp : BitVec 7) (r : Config.RngState) : (s.installContext p g x wp r).op0 = s.op0 := rfl
@[simp] theorem State.installContext_op1 (p g x : Nat) (wp : BitVec 7) (r : Config.RngState) : (s.installContext p g x wp r).op1 = s.op1 := rfl
@[simp] theorem State.installContext_op2 (p g x : Nat) (wp : BitVec 7) (r : Config.RngState) : (s.installContext p g x wp r).op2 = s.op2 := rfl
@[simp] theorem State.installContext_res0 (p g x : Nat) (wp : BitVec 7) (r : Config.RngState) : (s.installContext p g x wp r).res0 = BitVec.ofNat 64 p := rfl
@[simp] theorem State.installContext_res1 (p g x : Nat) (wp : BitVec 7) (r : Config.RngState) : (s.installContext p g x wp r).res1 = BitVec.ofNat 64 g := rfl
@[simp] theorem State.installContext_res2 (p g x : Nat) (wp : BitVec 7) (r : Config.RngState) : (s.installContext p g x wp r).res2 = BitVec.ofNat 64 (modExp g x p) := rfl
@[simp] theorem State.installContext_resLen (p g x : Nat) (wp : BitVec 7) (r : Config.RngState) : (s.installContext p g x wp r).resLen = s.resLen := rfl
@[simp] theorem State.installContext_cfgWp (p g x : Nat) (wp : BitVec 7) (r : Config.RngState) : (s.installContext p g x wp r).cfgWp = s.cfgWp := rfl
@[simp] theorem State.installContext_cfgWg (p g x : Nat) (wp : BitVec 7) (r : Config.RngState) : (s.installContext p g x wp r).cfgWg = s.cfgWg := rfl
@[simp] theorem State.installContext_cfgXmin (p g x : Nat) (wp : BitVec 7) (r : Config.RngState) : (s.installContext p g x wp r).cfgXmin = s.cfgXmin := rfl
@[simp] theorem State.installContext_cfgXmax (p g x : Nat) (wp : BitVec 7) (r : Config.RngState) : (s.installContext p g x wp r).cfgXmax = s.cfgXmax := rfl
@[simp] theorem State.installContext_seedLo (p g x : Nat) (wp : BitVec 7) (r : Config.RngState) : (s.installContext p g x wp r).seedLo = s.seedLo := rfl
@[simp] theorem State.installContext_rng (p g x : Nat) (wp : BitVec 7) (r : Config.RngState) : (s.installContext p g x wp r).rng = r := rfl
@[simp] theorem State.installContext_bfKeylen (p g x : Nat) (wp : BitVec 7) (r : Config.RngState) : (s.installContext p g x wp r).bfKeylen = s.bfKeylen := rfl
@[simp] theorem State.installContext_bfLen (p g x : Nat) (wp : BitVec 7) (r : Config.RngState) : (s.installContext p g x wp r).bfLen = s.bfLen := rfl
@[simp] theorem State.installContext_key (p g x : Nat) (wp : BitVec 7) (r : Config.RngState) : (s.installContext p g x wp r).key = s.key := rfl
@[simp] theorem State.installContext_buf (p g x : Nat) (wp : BitVec 7) (r : Config.RngState) : (s.installContext p g x wp r).buf = s.buf := rfl
@[simp] theorem State.installContext_kaState (p g x : Nat) (wp : BitVec 7) (r : Config.RngState) : (s.installContext p g x wp r).kaState = .ready := rfl
@[simp] theorem State.installContext_kaP (p g x : Nat) (wp : BitVec 7) (r : Config.RngState) : (s.installContext p g x wp r).kaP = BitVec.ofNat 64 p := rfl
@[simp] theorem State.installContext_kaG (p g x : Nat) (wp : BitVec 7) (r : Config.RngState) : (s.installContext p g x wp r).kaG = BitVec.ofNat 64 g := rfl
@[simp] theorem State.installContext_kaX (p g x : Nat) (wp : BitVec 7) (r : Config.RngState) : (s.installContext p g x wp r).kaX = BitVec.ofNat 64 x := rfl
@[simp] theorem State.installContext_kaA (p g x : Nat) (wp : BitVec 7) (r : Config.RngState) : (s.installContext p g x wp r).kaA = BitVec.ofNat 64 (modExp g x p) := rfl
@[simp] theorem State.installContext_kaWp (p g x : Nat) (wp : BitVec 7) (r : Config.RngState) : (s.installContext p g x wp r).kaWp = wp := rfl
@[simp] theorem State.installContext_bfP (p g x : Nat) (wp : BitVec 7) (r : Config.RngState) : (s.installContext p g x wp r).bfP = s.bfP := rfl
@[simp] theorem State.installContext_bfS (p g x : Nat) (wp : BitVec 7) (r : Config.RngState) : (s.installContext p g x wp r).bfS = s.bfS := rfl
@[simp] theorem State.installContext_bfKeyed (p g x : Nat) (wp : BitVec 7) (r : Config.RngState) : (s.installContext p g x wp r).bfKeyed = s.bfKeyed := rfl
@[simp] theorem State.installContext_inputs (p g x : Nat) (wp : BitVec 7) (r : Config.RngState) : (s.installContext p g x wp r).inputs = s.inputs := rfl
@[simp] theorem State.installContext_response (p g x : Nat) (wp : BitVec 7) (r : Config.RngState) : (s.installContext p g x wp r).response = s.response := rfl
@[simp] theorem State.installContext_samplingTurns (p g x : Nat) (wp : BitVec 7) (r : Config.RngState) : (s.installContext p g x wp r).samplingTurns = s.samplingTurns := rfl
@[simp] theorem State.installContext_freeReads (p g x : Nat) (wp : BitVec 7) (r : Config.RngState) : (s.installContext p g x wp r).freeReads = s.freeReads := rfl
@[simp] theorem State.installContext_resets (p g x : Nat) (wp : BitVec 7) (r : Config.RngState) : (s.installContext p g x wp r).resets = s.resets := rfl

/-! ### `State.clearContext` -/

@[simp] theorem State.clearContext_ie : s.clearContext.ie = s.ie := rfl
@[simp] theorem State.clearContext_done : s.clearContext.done = s.done := rfl
@[simp] theorem State.clearContext_ovr : s.clearContext.ovr = s.ovr := rfl
@[simp] theorem State.clearContext_errcode : s.clearContext.errcode = s.errcode := rfl
@[simp] theorem State.clearContext_lastop : s.clearContext.lastop = s.lastop := rfl
@[simp] theorem State.clearContext_pending : s.clearContext.pending = s.pending := rfl
@[simp] theorem State.clearContext_op0 : s.clearContext.op0 = s.op0 := rfl
@[simp] theorem State.clearContext_op1 : s.clearContext.op1 = s.op1 := rfl
@[simp] theorem State.clearContext_op2 : s.clearContext.op2 = s.op2 := rfl
@[simp] theorem State.clearContext_res0 : s.clearContext.res0 = s.res0 := rfl
@[simp] theorem State.clearContext_res1 : s.clearContext.res1 = s.res1 := rfl
@[simp] theorem State.clearContext_res2 : s.clearContext.res2 = s.res2 := rfl
@[simp] theorem State.clearContext_resLen : s.clearContext.resLen = s.resLen := rfl
@[simp] theorem State.clearContext_cfgWp : s.clearContext.cfgWp = s.cfgWp := rfl
@[simp] theorem State.clearContext_cfgWg : s.clearContext.cfgWg = s.cfgWg := rfl
@[simp] theorem State.clearContext_cfgXmin : s.clearContext.cfgXmin = s.cfgXmin := rfl
@[simp] theorem State.clearContext_cfgXmax : s.clearContext.cfgXmax = s.cfgXmax := rfl
@[simp] theorem State.clearContext_seedLo : s.clearContext.seedLo = s.seedLo := rfl
@[simp] theorem State.clearContext_rng : s.clearContext.rng = s.rng := rfl
@[simp] theorem State.clearContext_bfKeylen : s.clearContext.bfKeylen = s.bfKeylen := rfl
@[simp] theorem State.clearContext_bfLen : s.clearContext.bfLen = s.bfLen := rfl
@[simp] theorem State.clearContext_key : s.clearContext.key = s.key := rfl
@[simp] theorem State.clearContext_buf : s.clearContext.buf = s.buf := rfl
@[simp] theorem State.clearContext_kaState : s.clearContext.kaState = .empty := rfl
@[simp] theorem State.clearContext_kaP : s.clearContext.kaP = 0 := rfl
@[simp] theorem State.clearContext_kaG : s.clearContext.kaG = 0 := rfl
@[simp] theorem State.clearContext_kaX : s.clearContext.kaX = 0 := rfl
@[simp] theorem State.clearContext_kaA : s.clearContext.kaA = 0 := rfl
@[simp] theorem State.clearContext_kaWp : s.clearContext.kaWp = 0 := rfl
@[simp] theorem State.clearContext_bfP : s.clearContext.bfP = s.bfP := rfl
@[simp] theorem State.clearContext_bfS : s.clearContext.bfS = s.bfS := rfl
@[simp] theorem State.clearContext_bfKeyed : s.clearContext.bfKeyed = s.bfKeyed := rfl
@[simp] theorem State.clearContext_inputs : s.clearContext.inputs = s.inputs := rfl
@[simp] theorem State.clearContext_response : s.clearContext.response = s.response := rfl
@[simp] theorem State.clearContext_samplingTurns : s.clearContext.samplingTurns = s.samplingTurns := rfl
@[simp] theorem State.clearContext_freeReads : s.clearContext.freeReads = s.freeReads := rfl
@[simp] theorem State.clearContext_resets : s.clearContext.resets = s.resets := rfl

/-! ### `State.installSchedule` -/

@[simp] theorem State.installSchedule_ie (k : PArray × SBoxes) : (s.installSchedule k).ie = s.ie := rfl
@[simp] theorem State.installSchedule_done (k : PArray × SBoxes) : (s.installSchedule k).done = s.done := rfl
@[simp] theorem State.installSchedule_ovr (k : PArray × SBoxes) : (s.installSchedule k).ovr = s.ovr := rfl
@[simp] theorem State.installSchedule_errcode (k : PArray × SBoxes) : (s.installSchedule k).errcode = s.errcode := rfl
@[simp] theorem State.installSchedule_lastop (k : PArray × SBoxes) : (s.installSchedule k).lastop = s.lastop := rfl
@[simp] theorem State.installSchedule_pending (k : PArray × SBoxes) : (s.installSchedule k).pending = s.pending := rfl
@[simp] theorem State.installSchedule_op0 (k : PArray × SBoxes) : (s.installSchedule k).op0 = s.op0 := rfl
@[simp] theorem State.installSchedule_op1 (k : PArray × SBoxes) : (s.installSchedule k).op1 = s.op1 := rfl
@[simp] theorem State.installSchedule_op2 (k : PArray × SBoxes) : (s.installSchedule k).op2 = s.op2 := rfl
@[simp] theorem State.installSchedule_res0 (k : PArray × SBoxes) : (s.installSchedule k).res0 = s.res0 := rfl
@[simp] theorem State.installSchedule_res1 (k : PArray × SBoxes) : (s.installSchedule k).res1 = s.res1 := rfl
@[simp] theorem State.installSchedule_res2 (k : PArray × SBoxes) : (s.installSchedule k).res2 = s.res2 := rfl
@[simp] theorem State.installSchedule_resLen (k : PArray × SBoxes) : (s.installSchedule k).resLen = s.resLen := rfl
@[simp] theorem State.installSchedule_cfgWp (k : PArray × SBoxes) : (s.installSchedule k).cfgWp = s.cfgWp := rfl
@[simp] theorem State.installSchedule_cfgWg (k : PArray × SBoxes) : (s.installSchedule k).cfgWg = s.cfgWg := rfl
@[simp] theorem State.installSchedule_cfgXmin (k : PArray × SBoxes) : (s.installSchedule k).cfgXmin = s.cfgXmin := rfl
@[simp] theorem State.installSchedule_cfgXmax (k : PArray × SBoxes) : (s.installSchedule k).cfgXmax = s.cfgXmax := rfl
@[simp] theorem State.installSchedule_seedLo (k : PArray × SBoxes) : (s.installSchedule k).seedLo = s.seedLo := rfl
@[simp] theorem State.installSchedule_rng (k : PArray × SBoxes) : (s.installSchedule k).rng = s.rng := rfl
@[simp] theorem State.installSchedule_bfKeylen (k : PArray × SBoxes) : (s.installSchedule k).bfKeylen = s.bfKeylen := rfl
@[simp] theorem State.installSchedule_bfLen (k : PArray × SBoxes) : (s.installSchedule k).bfLen = s.bfLen := rfl
@[simp] theorem State.installSchedule_key (k : PArray × SBoxes) : (s.installSchedule k).key = s.key := rfl
@[simp] theorem State.installSchedule_buf (k : PArray × SBoxes) : (s.installSchedule k).buf = s.buf := rfl
@[simp] theorem State.installSchedule_kaState (k : PArray × SBoxes) : (s.installSchedule k).kaState = s.kaState := rfl
@[simp] theorem State.installSchedule_kaP (k : PArray × SBoxes) : (s.installSchedule k).kaP = s.kaP := rfl
@[simp] theorem State.installSchedule_kaG (k : PArray × SBoxes) : (s.installSchedule k).kaG = s.kaG := rfl
@[simp] theorem State.installSchedule_kaX (k : PArray × SBoxes) : (s.installSchedule k).kaX = s.kaX := rfl
@[simp] theorem State.installSchedule_kaA (k : PArray × SBoxes) : (s.installSchedule k).kaA = s.kaA := rfl
@[simp] theorem State.installSchedule_kaWp (k : PArray × SBoxes) : (s.installSchedule k).kaWp = s.kaWp := rfl
@[simp] theorem State.installSchedule_bfP (k : PArray × SBoxes) : (s.installSchedule k).bfP = k.1 := rfl
@[simp] theorem State.installSchedule_bfS (k : PArray × SBoxes) : (s.installSchedule k).bfS = k.2 := rfl
@[simp] theorem State.installSchedule_bfKeyed (k : PArray × SBoxes) : (s.installSchedule k).bfKeyed = true := rfl
@[simp] theorem State.installSchedule_inputs (k : PArray × SBoxes) : (s.installSchedule k).inputs = s.inputs := rfl
@[simp] theorem State.installSchedule_response (k : PArray × SBoxes) : (s.installSchedule k).response = s.response := rfl
@[simp] theorem State.installSchedule_samplingTurns (k : PArray × SBoxes) : (s.installSchedule k).samplingTurns = s.samplingTurns := rfl
@[simp] theorem State.installSchedule_freeReads (k : PArray × SBoxes) : (s.installSchedule k).freeReads = s.freeReads := rfl
@[simp] theorem State.installSchedule_resets (k : PArray × SBoxes) : (s.installSchedule k).resets = s.resets := rfl

/-! ### `State.clearSchedule` -/

@[simp] theorem State.clearSchedule_ie : s.clearSchedule.ie = s.ie := rfl
@[simp] theorem State.clearSchedule_done : s.clearSchedule.done = s.done := rfl
@[simp] theorem State.clearSchedule_ovr : s.clearSchedule.ovr = s.ovr := rfl
@[simp] theorem State.clearSchedule_errcode : s.clearSchedule.errcode = s.errcode := rfl
@[simp] theorem State.clearSchedule_lastop : s.clearSchedule.lastop = s.lastop := rfl
@[simp] theorem State.clearSchedule_pending : s.clearSchedule.pending = s.pending := rfl
@[simp] theorem State.clearSchedule_op0 : s.clearSchedule.op0 = s.op0 := rfl
@[simp] theorem State.clearSchedule_op1 : s.clearSchedule.op1 = s.op1 := rfl
@[simp] theorem State.clearSchedule_op2 : s.clearSchedule.op2 = s.op2 := rfl
@[simp] theorem State.clearSchedule_res0 : s.clearSchedule.res0 = s.res0 := rfl
@[simp] theorem State.clearSchedule_res1 : s.clearSchedule.res1 = s.res1 := rfl
@[simp] theorem State.clearSchedule_res2 : s.clearSchedule.res2 = s.res2 := rfl
@[simp] theorem State.clearSchedule_resLen : s.clearSchedule.resLen = s.resLen := rfl
@[simp] theorem State.clearSchedule_cfgWp : s.clearSchedule.cfgWp = s.cfgWp := rfl
@[simp] theorem State.clearSchedule_cfgWg : s.clearSchedule.cfgWg = s.cfgWg := rfl
@[simp] theorem State.clearSchedule_cfgXmin : s.clearSchedule.cfgXmin = s.cfgXmin := rfl
@[simp] theorem State.clearSchedule_cfgXmax : s.clearSchedule.cfgXmax = s.cfgXmax := rfl
@[simp] theorem State.clearSchedule_seedLo : s.clearSchedule.seedLo = s.seedLo := rfl
@[simp] theorem State.clearSchedule_rng : s.clearSchedule.rng = s.rng := rfl
@[simp] theorem State.clearSchedule_bfKeylen : s.clearSchedule.bfKeylen = s.bfKeylen := rfl
@[simp] theorem State.clearSchedule_bfLen : s.clearSchedule.bfLen = s.bfLen := rfl
@[simp] theorem State.clearSchedule_key : s.clearSchedule.key = s.key := rfl
@[simp] theorem State.clearSchedule_buf : s.clearSchedule.buf = s.buf := rfl
@[simp] theorem State.clearSchedule_kaState : s.clearSchedule.kaState = s.kaState := rfl
@[simp] theorem State.clearSchedule_kaP : s.clearSchedule.kaP = s.kaP := rfl
@[simp] theorem State.clearSchedule_kaG : s.clearSchedule.kaG = s.kaG := rfl
@[simp] theorem State.clearSchedule_kaX : s.clearSchedule.kaX = s.kaX := rfl
@[simp] theorem State.clearSchedule_kaA : s.clearSchedule.kaA = s.kaA := rfl
@[simp] theorem State.clearSchedule_kaWp : s.clearSchedule.kaWp = s.kaWp := rfl
@[simp] theorem State.clearSchedule_bfP : s.clearSchedule.bfP = Vector.replicate 18 0 := rfl
@[simp] theorem State.clearSchedule_bfS : s.clearSchedule.bfS = Vector.replicate 4 (Vector.replicate 256 0) := rfl
@[simp] theorem State.clearSchedule_bfKeyed : s.clearSchedule.bfKeyed = false := rfl
@[simp] theorem State.clearSchedule_inputs : s.clearSchedule.inputs = s.inputs := rfl
@[simp] theorem State.clearSchedule_response : s.clearSchedule.response = s.response := rfl
@[simp] theorem State.clearSchedule_samplingTurns : s.clearSchedule.samplingTurns = s.samplingTurns := rfl
@[simp] theorem State.clearSchedule_freeReads : s.clearSchedule.freeReads = s.freeReads := rfl
@[simp] theorem State.clearSchedule_resets : s.clearSchedule.resets = s.resets := rfl

/-! ### `State.deliver` -/

@[simp] theorem State.deliver_ie (w : Word) : (s.deliver w).ie = s.ie := rfl
@[simp] theorem State.deliver_done (w : Word) : (s.deliver w).done = false := rfl
@[simp] theorem State.deliver_ovr (w : Word) : (s.deliver w).ovr = s.ovr := rfl
@[simp] theorem State.deliver_errcode (w : Word) : (s.deliver w).errcode = .ok := rfl
@[simp] theorem State.deliver_lastop (w : Word) : (s.deliver w).lastop = opcField w := rfl
@[simp] theorem State.deliver_pending (w : Word) : (s.deliver w).pending = some w := rfl
@[simp] theorem State.deliver_op0 (w : Word) : (s.deliver w).op0 = s.op0 := rfl
@[simp] theorem State.deliver_op1 (w : Word) : (s.deliver w).op1 = s.op1 := rfl
@[simp] theorem State.deliver_op2 (w : Word) : (s.deliver w).op2 = s.op2 := rfl
@[simp] theorem State.deliver_res0 (w : Word) : (s.deliver w).res0 = s.res0 := rfl
@[simp] theorem State.deliver_res1 (w : Word) : (s.deliver w).res1 = s.res1 := rfl
@[simp] theorem State.deliver_res2 (w : Word) : (s.deliver w).res2 = s.res2 := rfl
@[simp] theorem State.deliver_resLen (w : Word) : (s.deliver w).resLen = s.resLen := rfl
@[simp] theorem State.deliver_cfgWp (w : Word) : (s.deliver w).cfgWp = s.cfgWp := rfl
@[simp] theorem State.deliver_cfgWg (w : Word) : (s.deliver w).cfgWg = s.cfgWg := rfl
@[simp] theorem State.deliver_cfgXmin (w : Word) : (s.deliver w).cfgXmin = s.cfgXmin := rfl
@[simp] theorem State.deliver_cfgXmax (w : Word) : (s.deliver w).cfgXmax = s.cfgXmax := rfl
@[simp] theorem State.deliver_seedLo (w : Word) : (s.deliver w).seedLo = s.seedLo := rfl
@[simp] theorem State.deliver_rng (w : Word) : (s.deliver w).rng = s.rng := rfl
@[simp] theorem State.deliver_bfKeylen (w : Word) : (s.deliver w).bfKeylen = s.bfKeylen := rfl
@[simp] theorem State.deliver_bfLen (w : Word) : (s.deliver w).bfLen = s.bfLen := rfl
@[simp] theorem State.deliver_key (w : Word) : (s.deliver w).key = s.key := rfl
@[simp] theorem State.deliver_buf (w : Word) : (s.deliver w).buf = s.buf := rfl
@[simp] theorem State.deliver_kaState (w : Word) : (s.deliver w).kaState = s.kaState := rfl
@[simp] theorem State.deliver_kaP (w : Word) : (s.deliver w).kaP = s.kaP := rfl
@[simp] theorem State.deliver_kaG (w : Word) : (s.deliver w).kaG = s.kaG := rfl
@[simp] theorem State.deliver_kaX (w : Word) : (s.deliver w).kaX = s.kaX := rfl
@[simp] theorem State.deliver_kaA (w : Word) : (s.deliver w).kaA = s.kaA := rfl
@[simp] theorem State.deliver_kaWp (w : Word) : (s.deliver w).kaWp = s.kaWp := rfl
@[simp] theorem State.deliver_bfP (w : Word) : (s.deliver w).bfP = s.bfP := rfl
@[simp] theorem State.deliver_bfS (w : Word) : (s.deliver w).bfS = s.bfS := rfl
@[simp] theorem State.deliver_bfKeyed (w : Word) : (s.deliver w).bfKeyed = s.bfKeyed := rfl
@[simp] theorem State.deliver_inputs (w : Word) : (s.deliver w).inputs = [] := rfl
@[simp] theorem State.deliver_response (w : Word) : (s.deliver w).response = s.response := rfl
@[simp] theorem State.deliver_samplingTurns (w : Word) : (s.deliver w).samplingTurns = 0 := rfl
@[simp] theorem State.deliver_freeReads (w : Word) : (s.deliver w).freeReads = s.freeReads := rfl
@[simp] theorem State.deliver_resets (w : Word) : (s.deliver w).resets = s.resets := rfl

end Sys2Proof.Machine
end

