-- ==== Sys2Proof/Laws/Memory.lean ====
section
/-! SUPPORT. What the operations over `BUF` do: read after write, the bytes left alone, and that each
of them keeps the canonical form. -/

namespace Sys2Proof.Machine

/-- Read after write, at the written index and at every other. -/
theorem Memory.read?_write (m : Memory) (a b : Nat) (v : Byte) :
    (m.write a v).read? b = if b = a then some v else m.read? b := by
  induction m with
  | nil => simp [Memory.write, Memory.read?, eq_comm]
  | cons e m ih =>
    obtain ⟨k, x⟩ := e
    unfold Memory.write
    split
    · simp [Memory.read?, eq_comm]
    · split
      · rename_i hk
        subst hk
        by_cases h : b = a
        · simp [Memory.read?, h]
        · simp [Memory.read?, h, Ne.symm h]
      · rename_i hk
        simp only [Memory.read?, ih]
        by_cases h : k = b
        · have h' : b ≠ a := by omega
          simp [h, h']
        · simp [h]

/-- The canonical form, said as a proposition. -/
theorem Memory.wf_iff (m : Memory) :
    m.wf = true ↔ m.Pairwise (fun x y => x.1 < y.1) ∧ ∀ x ∈ m, x.1 < Config.bufBytes := by
  simp [Memory.wf]

/-- An entry after a write is the written one or an old one. -/
theorem Memory.mem_write (m : Memory) (a : Nat) (v : Byte) (e : Host.Cell) :
    e ∈ m.write a v → e = (a, v) ∨ e ∈ m := by
  induction m with
  | nil => simp [Memory.write]
  | cons c m ih =>
    obtain ⟨k, x⟩ := c
    unfold Memory.write
    split
    · simp
    · split
      · simp only [List.mem_cons]; tauto
      · simp only [List.mem_cons]; tauto

/-- A write inside `BUF` keeps the canonical form. -/
theorem Memory.wf_write (m : Memory) (a : Nat) (v : Byte) (ha : a < Config.bufBytes)
    (h : m.wf = true) : (m.write a v).wf = true := by
  rw [Memory.wf_iff] at h ⊢
  refine ⟨?_, fun e he => ?_⟩
  · obtain ⟨hs, -⟩ := h
    induction m with
    | nil => simp [Memory.write]
    | cons c m ih =>
      obtain ⟨k, x⟩ := c
      rw [List.pairwise_cons] at hs
      unfold Memory.write
      split
      · rename_i hlt
        refine List.pairwise_cons.2 ⟨?_, List.pairwise_cons.2 hs⟩
        intro e he
        rcases List.mem_cons.1 he with rfl | he
        · exact hlt
        · exact hlt.trans (hs.1 e he)
      · split
        · rename_i hk; subst hk
          exact List.pairwise_cons.2 ⟨fun e he => hs.1 e he, hs.2⟩
        · refine List.pairwise_cons.2 ⟨fun e he => ?_, ih hs.2⟩
          rcases Memory.mem_write m a v e he with rfl | he
          · show k < a; omega
          · exact hs.1 e he
  · rcases Memory.mem_write m a v e he with rfl | he
    · exact ha
    · exact h.2 e he

/-- A byte after a write. -/
@[simp] theorem Memory.byte_write (m : Memory) (n a b : Nat) (v : Byte) :
    (m.write a v).byte n b = if b = a then v else m.byte n b := by
  unfold Memory.byte
  rw [Memory.read?_write]
  split <;> rfl

/-- Each byte after `writeLE` (R15): the value's bytes inside, the old ones outside. -/
theorem Memory.byte_writeLE (m : Memory) (n a count v i : Nat) :
    (m.writeLE a count v).byte n i =
      if a ≤ i ∧ i < a + count then BitVec.ofNat 8 (v / 2 ^ (8 * (i - a))) else m.byte n i := by
  induction count generalizing m a v with
  | zero => rw [if_neg (by omega)]; rfl
  | succ c ih =>
    rw [Memory.writeLE, ih, Memory.byte_write]
    by_cases h : a = i
    · subst h; simp
    · by_cases h2 : a + 1 ≤ i ∧ i < a + 1 + c
      · rw [if_pos h2, if_pos (by omega), Nat.div_div_eq_div_mul, ← pow_add]
        congr 3
        omega
      · rw [if_neg h2, if_neg (by omega), if_neg (by omega)]

/-- `writeLE` inside `BUF` keeps the canonical form. -/
theorem Memory.wf_writeLE (m : Memory) (a count v : Nat) (ha : a + count ≤ Config.bufBytes)
    (h : m.wf = true) : (m.writeLE a count v).wf = true := by
  induction count generalizing m a v with
  | zero => exact h
  | succ c ih => exact ih _ _ _ (by omega) (Memory.wf_write _ _ _ (by omega) h)

/-- `readLE` is the little-endian sum of the bytes (R15), and it depends on them alone. -/
theorem Memory.readLE_congr (m m' : Memory) (n n' a count : Nat)
    (h : ∀ i, a ≤ i → i < a + count → m.byte n i = m'.byte n' i) :
    m.readLE n a count = m'.readLE n' a count := by
  induction count generalizing a with
  | zero => rfl
  | succ c ih =>
    rw [Memory.readLE, Memory.readLE, h a (by omega) (by omega),
      ih (a + 1) fun i h1 h2 => h i (by omega) (by omega)]

/-- Byte `j` of a block in buffer order (R506). -/
def blockByte (b : Word × Word) (j : Nat) : Byte :=
  if j < 4 then b.1.extractLsb' (24 - 8 * j) 8 else b.2.extractLsb' (56 - 8 * j) 8

/-- Each byte after half a block is written, its most significant byte first (R506). -/
theorem Memory.byte_writeHalf (m : Memory) (n o : Nat) (x : Word) (i : Nat) :
    (m.writeHalf o x).byte n i =
      if o ≤ i ∧ i < o + 4 then x.extractLsb' (24 - 8 * (i - o)) 8 else m.byte n i := by
  simp only [Memory.writeHalf, Memory.byte_write]
  split_ifs <;> first | rfl | omega | (subst_vars; simp)

/-- Each byte after a block is written (R506). -/
theorem Memory.byte_writeBlock (m : Memory) (n o : Nat) (b : Word × Word) (i : Nat) :
    (m.writeBlock o b).byte n i =
      if o ≤ i ∧ i < o + 8 then blockByte b (i - o) else m.byte n i := by
  rw [Memory.writeBlock, Memory.byte_writeHalf, Memory.byte_writeHalf, blockByte]
  split_ifs <;> first | rfl | omega | (congr 1; omega)

/-- A block inside `BUF` keeps the canonical form. -/
theorem Memory.wf_writeBlock (m : Memory) (o : Nat) (b : Word × Word)
    (ho : o + 8 ≤ Config.bufBytes) (h : m.wf = true) : (m.writeBlock o b).wf = true := by
  have ho' : o + 8 ≤ 1024 := ho
  simp only [Memory.writeBlock, Memory.writeHalf]
  repeat (first | exact h | refine Memory.wf_write _ _ _ (show _ < 1024 by omega) ?_)

/-- A block depends only on its eight bytes (R506). -/
theorem Memory.readBlock_congr (m m' : Memory) (n n' o : Nat)
    (h : ∀ j < 8, m.byte n (o + j) = m'.byte n' (o + j)) :
    m.readBlock n o = m'.readBlock n' o := by
  have h0 := h 0 (by omega)
  rw [Nat.add_zero] at h0
  simp only [Memory.readBlock, h0, h 1 (by omega), h 2 (by omega), h 3 (by omega), h 4 (by omega),
    h 5 (by omega), h 6 (by omega), h 7 (by omega)]

/-- The four bytes of a half, joined again. -/
theorem joinBytes (x : Word) :
    (x.extractLsb' 24 8 ++ x.extractLsb' 16 8 ++ x.extractLsb' 8 8 ++ x.extractLsb' 0 8 : Word) = x := by
  apply BitVec.eq_of_getLsbD_eq
  intro i hi
  simp only [BitVec.getLsbD_append, BitVec.getLsbD_extractLsb']
  split_ifs <;> (rw [decide_eq_true (by omega), Bool.true_and]; congr 1; omega)

/-- A block that has just been written is read back (R506). -/
theorem Memory.readBlock_writeBlock (m : Memory) (n o : Nat) (b : Word × Word) :
    (m.writeBlock o b).readBlock n o = b := by
  obtain ⟨l, r⟩ := b
  have e : ∀ j, j < 8 → (m.writeBlock o (l, r)).byte n (o + j) = blockByte (l, r) j := by
    intro j hj
    rw [Memory.byte_writeBlock, if_pos (by omega), Nat.add_sub_cancel_left]
  have e0 := e 0 (by omega)
  rw [Nat.add_zero] at e0
  simp only [Memory.readBlock, e0, e 1 (by omega), e 2 (by omega), e 3 (by omega), e 4 (by omega),
    e 5 (by omega), e 6 (by omega), e 7 (by omega)]
  exact Prod.ext (joinBytes l) (joinBytes r)

/-- Each byte after the blocks `k` to `k + count - 1` are transformed in place (R507). -/
theorem Memory.byte_mapBlocks (f : Word × Word → Word × Word) (m : Memory) (n k count i : Nat) :
    (m.mapBlocks f n k count).byte n i =
      if k ≤ i / 8 ∧ i / 8 < k + count then blockByte (f (m.readBlock n (8 * (i / 8)))) (i % 8)
      else m.byte n i := by
  induction count generalizing m k with
  | zero => rw [if_neg (by omega)]; rfl
  | succ c ih =>
    rw [Memory.mapBlocks, ih]
    by_cases hk : i / 8 = k
    · rw [if_neg (by omega), if_pos (by omega), Memory.byte_writeBlock, if_pos (by omega), hk]
      congr 1
      omega
    · have hb : (m.writeBlock (8 * k) (f (m.readBlock n (8 * k)))).readBlock n (8 * (i / 8))
          = m.readBlock n (8 * (i / 8)) := by
        refine Memory.readBlock_congr _ _ _ _ _ fun j hj => ?_
        rw [Memory.byte_writeBlock, if_neg (by omega)]
      have hi : ¬(8 * k ≤ i ∧ i < 8 * k + 8) := by omega
      by_cases h2 : k + 1 ≤ i / 8 ∧ i / 8 < k + 1 + c
      · rw [if_pos h2, if_pos (by omega), hb]
      · rw [if_neg h2, if_neg (by omega), Memory.byte_writeBlock, if_neg hi]

/-- Transforming blocks inside `BUF` keeps the canonical form. -/
theorem Memory.wf_mapBlocks (f : Word × Word → Word × Word) (m : Memory) (n k count : Nat)
    (hc : 8 * (k + count) ≤ Config.bufBytes) (h : m.wf = true) :
    (m.mapBlocks f n k count).wf = true := by
  induction count generalizing m k with
  | zero => exact h
  | succ c ih => exact ih _ _ (by omega) (Memory.wf_writeBlock _ _ _ (by omega) h)

/-- The reset memory has the canonical form. -/
theorem reset_wf : State.reset.buf.wf = true := rfl

end Sys2Proof.Machine
end

