-- ==== Sys2Proof/Laws/Commands.lean ====
section
/-! SUPPORT. What a turn of the engine can do: every command ends its turn through `State.finish`, and
one lemma per rule lists the ways it can end. -/

namespace Sys2Proof.Machine

@[simp] theorem State.finish_raise (s : State) (e : ErrorCode) :
    s.finish (.raise e) = s.complete e := rfl

@[simp] theorem State.finish_complete (s t : State) :
    s.finish (.complete t) = t.complete .ok := rfl

@[simp] theorem State.finish_drawing (s : State) :
    s.finish .drawing = { s with samplingTurns := s.samplingTurns + 1 } := rfl

/-- The way each command's rule ends the turn. -/
def ruleOf (i : Instr) (s : State) : CommandResult :=
  match i with
  | .nop => .complete s
  | .montmul => montmulRule s
  | .modexp => modexpRule s
  | .kaGenerate => kaGenerateRule Config.rngNext s
  | .kaAdopt => kaAdoptRule Config.rngNext s
  | .kaDerive => kaDeriveRule s
  | .kaShare => kaShareRule s
  | .kaParams => kaParamsRule s
  | .kaClear => .complete s.clearContext
  | .bfKeysched => bfKeyschedRule s
  | .bfEncrypt => bfCryptRule encBlock s
  | .bfDecrypt => bfCryptRule decBlock s
  | .bfClear => .complete s.clearSchedule

/-- Every command answers a next state: its rule's, through `State.finish`. -/
theorem exec_eq (i : Instr) (s : State) : exec i s = .next (s.finish (ruleOf i s)) := by
  cases i <;> rfl

/-- The ways `MONTMUL` ends (R410). -/
theorem montmulRule_cases (s : State) :
    montmulRule s = .raise .operandRange ∨
    (modulusOK s.op2Nat = true ∧ s.op0Nat < s.op2Nat ∧ s.op1Nat < s.op2Nat ∧ montmulRule s =
      .complete { s with res0 := BitVec.ofNat 64 (montProd s.op0Nat s.op1Nat s.op2Nat) }) := by
  unfold montmulRule
  split
  · exact .inl rfl
  · split
    · exact .inl rfl
    · rename_i h1 h2
      rw [not_or, not_le, not_le] at h2
      exact .inr ⟨by simpa using h1, h2.1, h2.2, rfl⟩

/-- The ways `MODEXP` ends (R412). -/
theorem modexpRule_cases (s : State) :
    modexpRule s = .raise .operandRange ∨
    (modulusOK s.op2Nat = true ∧ s.op0Nat < s.op2Nat ∧ modexpRule s =
      .complete { s with res0 := BitVec.ofNat 64 (modExp s.op0Nat s.op1Nat s.op2Nat) }) := by
  unfold modexpRule
  split
  · exact .inl rfl
  · split
    · exact .inl rfl
    · rename_i h1 h2
      exact .inr ⟨by simpa using h1, by omega, rfl⟩

/-- The ways `KA_GENERATE` ends its turn (R460). -/
theorem kaGenerateRule_cases (next : Config.Source) (s : State) :
    kaGenerateRule next s = .raise .invalidConfig ∨
    (cfgLegalGen s.wp s.wg s.xmin s.xmax = true ∧
      sampleGenerate next s.wp s.wg s.xmin s.xmax s.drawsAllowed s.rng = none ∧
      kaGenerateRule next s = .drawing) ∨
    (cfgLegalGen s.wp s.wg s.xmin s.xmax = true ∧
      ∃ d, sampleGenerate next s.wp s.wg s.xmin s.xmax s.drawsAllowed s.rng = some d ∧
        kaGenerateRule next s = .complete (s.installContext d.p d.g d.x s.cfgWp d.rng)) := by
  unfold kaGenerateRule
  split
  · exact .inl rfl
  · rename_i h
    have h : cfgLegalGen s.wp s.wg s.xmin s.xmax = true := by simpa using h
    split
    · rename_i hs
      exact .inr (.inl ⟨h, hs, rfl⟩)
    · rename_i d hs
      exact .inr (.inr ⟨h, d, hs, rfl⟩)

/-- The checks of `KA_ADOPT` that its parameters pass (R462). -/
def adoptOk (s : State) : Prop :=
  1 < s.op2Nat ∧ 1 < s.op0Nat ∧ s.op0Nat < s.op2Nat ∧ s.op2Nat % 2 = 1 ∧ s.op2Nat < 2 ^ s.wp

/-- The ways `KA_ADOPT` ends its turn (R462). -/
theorem kaAdoptRule_cases (next : Config.Source) (s : State) :
    (∃ e, e ≠ .ok ∧ kaAdoptRule next s = .raise e) ∨
    (cfgLegalAdopt s.wp s.xmin s.xmax = true ∧ adoptOk s ∧
      sampleX next s.xmin s.xmax s.drawsAllowed s.rng = none ∧ kaAdoptRule next s = .drawing) ∨
    (cfgLegalAdopt s.wp s.xmin s.xmax = true ∧ adoptOk s ∧
      ∃ d, sampleX next s.xmin s.xmax s.drawsAllowed s.rng = some d ∧
        kaAdoptRule next s =
          .complete (s.installContext s.op2Nat s.op0Nat d.value s.cfgWp d.rng)) := by
  unfold kaAdoptRule
  split
  · exact .inl ⟨_, by decide, rfl⟩
  · split
    · exact .inl ⟨_, by decide, rfl⟩
    · split
      · exact .inl ⟨_, by decide, rfl⟩
      · split
        · exact .inl ⟨_, by decide, rfl⟩
        · rename_i h1 h2 h3 h4
          have h1 : cfgLegalAdopt s.wp s.xmin s.xmax = true := by simpa using h1
          have h5 : adoptOk s := ⟨by omega, by omega, by omega, by omega, by omega⟩
          split
          · rename_i hs
            exact .inr (.inl ⟨h1, h5, hs, rfl⟩)
          · rename_i d hs
            exact .inr (.inr ⟨h1, h5, d, hs, rfl⟩)

/-- The ways `KA_DERIVE` ends (R470). -/
theorem kaDeriveRule_cases (s : State) :
    (∃ e, e ≠ .ok ∧ kaDeriveRule s = .raise e) ∨
    (s.kaState = .ready ∧ 0 < s.op0Nat ∧ s.op0Nat < s.kaP.toNat ∧ kaDeriveRule s =
      .complete { s with
        res0 := BitVec.ofNat 64 (modExp s.op0Nat s.kaX.toNat s.kaP.toNat)
        resLen := BitVec.ofNat 8 ((s.kaWp.toNat + 7) / 8) }) := by
  unfold kaDeriveRule
  split
  · exact .inl ⟨_, by decide, rfl⟩
  · split
    · exact .inl ⟨_, by decide, rfl⟩
    · rename_i h1 h2
      refine .inr ⟨?_, by omega, by omega, rfl⟩
      cases h : s.kaState
      · exact absurd h h1
      · rfl

/-- The ways `KA_SHARE` ends (R474). -/
theorem kaShareRule_cases (s : State) :
    (s.kaState = .empty ∧ kaShareRule s = .raise .notInitialized) ∨
    (s.kaState = .ready ∧ kaShareRule s = .complete { s with res0 := s.kaA }) := by
  unfold kaShareRule
  cases h : s.kaState <;> simp

/-- The ways `KA_PARAMS` ends (R476). -/
theorem kaParamsRule_cases (s : State) :
    (s.kaState = .empty ∧ kaParamsRule s = .raise .notInitialized) ∨
    (s.kaState = .ready ∧ kaParamsRule s = .complete { s with res0 := s.kaP, res1 := s.kaG }) := by
  unfold kaParamsRule
  cases h : s.kaState <;> simp

/-- The ways `BF_KEYSCHED` ends (R520). -/
theorem bfKeyschedRule_cases (s : State) :
    bfKeyschedRule s = .raise .invalidKey ∨
    (Config.keyMin ≤ s.keyLen ∧ s.keyLen ≤ Config.keyMax ∧
      bfKeyschedRule s = .complete (s.installSchedule (keySchedule s.key s.keyLen))) := by
  unfold bfKeyschedRule
  split
  · exact .inl rfl
  · exact .inr ⟨by omega, by omega, rfl⟩

/-- What is installed is the schedule (R520). -/
theorem State.installSchedule_eq (s : State) (k : PArray × SBoxes) :
    ((s.installSchedule k).bfP, (s.installSchedule k).bfS) = k := rfl

/-- The ways `BF_ENCRYPT` and `BF_DECRYPT` end (R522, R524). -/
theorem bfCryptRule_cases (f : PArray → SBoxes → Word × Word → Word × Word) (s : State) :
    (∃ e, e ≠ .ok ∧ bfCryptRule f s = .raise e) ∨
    (s.bfKeyed = true ∧ s.dataLen % 8 = 0 ∧ s.dataLen ≤ Config.bufBytes ∧
      bfCryptRule f s = .complete (s.mapBlocks (f s.bfP s.bfS) (s.dataLen / 8))) := by
  unfold bfCryptRule
  split
  · exact .inl ⟨_, by decide, rfl⟩
  · split
    · exact .inl ⟨_, by decide, rfl⟩
    · split
      · exact .inl ⟨_, by decide, rfl⟩
      · exact .inr ⟨by simp_all, by omega, by omega, rfl⟩

end Sys2Proof.Machine
end

