-- ==== Sys2Proof/Laws/Bus.lean ====
section
/-! SUPPORT. What a host access can do. -/

namespace Sys2Proof.Machine

/-- A read changes nothing but the answer on the bus and the model's count of free values. -/
theorem State.hostRead_frame (s : State) (off : Nat) (w : Width) :
    s.hostRead off w =
      { s with response := (s.hostRead off w).response, freeReads := (s.hostRead off w).freeReads } := by
  unfold State.hostRead
  split
  · rfl
  · split
    · rfl
    · split <;> rfl

/-- What a good write can do (R209, R210, R710). -/
theorem State.goodWrite_cases (s : State) (off : Nat) (w : Width) (v : Word) :
    (s.busy = true ∧ s.goodWrite off w v = s.dropWrite) ∨
    (off < Config.bufOffset ∧ (s.busy = false ∨ (regAt off).alwaysWritable = true) ∧
      s.goodWrite off w v = s.writeReg v (regAt off)) ∨
    (Config.bufOffset ≤ off ∧ s.busy = false ∧
      s.goodWrite off w v = s.memWrite (off - Config.bufOffset) w.bytes v.toNat) := by
  unfold State.goodWrite
  split
  · rename_i h1
    split
    · rename_i h2
      exact .inl ⟨h2.1, rfl⟩
    · rename_i h2
      refine .inr (.inl ⟨h1, ?_, rfl⟩)
      cases h3 : s.busy
      · exact .inl rfl
      · right
        cases h4 : (regAt off).alwaysWritable
        · exact absurd ⟨h3, h4⟩ h2
        · rfl
  · rename_i h1
    split
    · rename_i h2
      exact .inl ⟨h2, rfl⟩
    · rename_i h2
      exact .inr (.inr ⟨by omega, by simpa using h2, rfl⟩)

/-- A write to a register leaves alone the results, the contexts and `BUF`, none of which a host write
reaches (R108, R119, R122). -/
theorem State.writeReg_frame (s : State) (v : Word) (r : Reg) :
    (s.writeReg v r).res0 = s.res0 ∧ (s.writeReg v r).res1 = s.res1 ∧
    (s.writeReg v r).res2 = s.res2 ∧ (s.writeReg v r).resLen = s.resLen ∧
    (s.writeReg v r).kaState = s.kaState ∧ (s.writeReg v r).kaP = s.kaP ∧
    (s.writeReg v r).kaG = s.kaG ∧ (s.writeReg v r).kaX = s.kaX ∧
    (s.writeReg v r).kaA = s.kaA ∧ (s.writeReg v r).kaWp = s.kaWp ∧
    (s.writeReg v r).bfP = s.bfP ∧ (s.writeReg v r).bfS = s.bfS ∧
    (s.writeReg v r).bfKeyed = s.bfKeyed ∧ (s.writeReg v r).buf = s.buf ∧
    (s.writeReg v r).inputs = s.inputs ∧ (s.writeReg v r).resets = s.resets := by
  cases r <;> simp [State.writeReg]

/-- The flags and the pending command after a register write that is not to `CMD`. -/
theorem State.writeReg_pending (s : State) (v : Word) (r : Reg) (h : r ≠ .cmd) :
    (s.writeReg v r).pending = s.pending ∧ (s.writeReg v r).errcode = s.errcode ∧
    (s.writeReg v r).lastop = s.lastop ∧ (s.writeReg v r).samplingTurns = s.samplingTurns ∧
    ((s.writeReg v r).done = true → s.done = true) := by
  cases r <;> simp_all [State.writeReg]

/-- The only always writable registers are `CTRL` and `STATUS` (R710). -/
theorem Reg.alwaysWritable_iff (r : Reg) : r.alwaysWritable = true ↔ r = .ctrl ∨ r = .status := by
  cases r <;> simp [Reg.alwaysWritable]

/-- A good access inside the buffer does not cross its end (R206). -/
theorem goodAccess_buf {off : Nat} {w : Width} (hg : goodAccess off w = true)
    (h1 : Config.bufOffset ≤ off) (h2 : off < Config.windowBytes) :
    off - Config.bufOffset + w.bytes ≤ Config.bufBytes := by
  have h1' : 0x400 ≤ off := h1
  have h2' : off < 0x800 := h2
  have hlt : ¬off < Config.bufOffset := by omega
  simp only [goodAccess, hlt, if_false, decide_eq_true_eq] at hg
  show off - 0x400 + w.bytes ≤ 1024
  cases w <;> simp only [Width.bytes] at hg ⊢ <;> omega

/-- A natural offset below `0x800` lies in the window (R200). -/
theorem inWindow_natCast {off : Nat} (h : off < 0x800) : inWindow (off : Int) = true := by
  have h' : (off : Int) < (0x800 : Nat) := by exact_mod_cast h
  simp only [inWindow, Bool.and_eq_true, decide_eq_true_eq]
  exact ⟨Int.natCast_nonneg off, h'⟩

/-- A 32-bit access at a multiple of 4 of the register space is good (R205). -/
theorem goodAccess_reg {off : Nat} (h : off < 0x400) (h4 : off % 4 = 0) :
    goodAccess off .w32 = true := by
  have h' : off < Config.bufOffset := h
  simp [goodAccess, h', h4]

/-- A naturally aligned access to `BUF` is good (R206). -/
theorem goodAccess_bufOffset {a : Nat} {w : Width} (h : a % w.bytes = 0) :
    goodAccess (0x400 + a) w = true := by
  have h' : ¬0x400 + a < Config.bufOffset := by
    show ¬0x400 + a < 0x400
    omega
  rw [goodAccess, if_neg h', decide_eq_true_eq]
  cases w <;> simp only [Width.bytes] at h ⊢ <;> omega

/-- What a good read of the register space answers (R208). -/
theorem hostAccess_readReg (s : State) {off : Nat} (h : off < 0x400) (h4 : off % 4 = 0) :
    hostAccess s (.read (off : Int) .w32) =
      .next { s with response := .data .w32 (s.readReg (regAt off)) } := by
  have h' : off < Config.bufOffset := h
  simp [hostAccess, inWindow_natCast (by omega : off < 0x800), State.hostRead, goodAccess_reg h h4, h']

/-- What a good write of the register space does when it is taken (R209). -/
theorem hostAccess_writeReg (s : State) {off : Nat} (v : Word) (h : off < 0x400) (h4 : off % 4 = 0)
    (hb : s.busy = false ∨ (regAt off).alwaysWritable = true) :
    hostAccess s (.write (off : Int) .w32 v) =
      .next { s.writeReg v (regAt off) with response := .written } := by
  have h' : off < Config.bufOffset := h
  have hb' : ¬(s.busy = true ∧ (regAt off).alwaysWritable = false) := by
    rcases hb with hb | hb <;> simp [hb]
  simp only [hostAccess, inWindow_natCast (by omega : off < 0x800), State.hostWrite,
    goodAccess_reg h h4, State.goodWrite, Int.toNat_natCast, if_pos h', if_neg hb', if_true,
    Bool.true_eq_false, if_false]

/-- What a good read of `BUF` answers when no cipher command is pending (R211). -/
theorem hostAccess_readBuf (s : State) {a : Nat} {w : Width} (h : a < 0x400) (ha : a % w.bytes = 0)
    (hc : s.cipherPending = false) :
    hostAccess s (.read ((0x400 + a : Nat) : Int) w) =
      .next { s with response := .data w (BitVec.ofNat 32 (s.memRead a w.bytes)) } := by
  have h' : ¬0x400 + a < Config.bufOffset := by
    show ¬0x400 + a < 0x400
    omega
  have h2 : 0x400 + a - Config.bufOffset = a := by
    show 0x400 + a - 0x400 = a
    omega
  simp only [hostAccess, inWindow_natCast (by omega : 0x400 + a < 0x800), State.hostRead,
    goodAccess_bufOffset ha, Int.toNat_natCast, if_neg h', hc, h2, if_true, Bool.true_eq_false,
    Bool.false_eq_true, if_false]

/-- What a good write of `BUF` does while no command is pending (R210). -/
theorem hostAccess_writeBuf (s : State) {a : Nat} {w : Width} (v : Word) (h : a < 0x400)
    (ha : a % w.bytes = 0) (hb : s.busy = false) :
    hostAccess s (.write ((0x400 + a : Nat) : Int) w v) =
      .next { s.memWrite a w.bytes v.toNat with response := .written } := by
  have h' : ¬0x400 + a < Config.bufOffset := by
    show ¬0x400 + a < 0x400
    omega
  have h2 : 0x400 + a - Config.bufOffset = a := by
    show 0x400 + a - 0x400 = a
    omega
  simp only [hostAccess, inWindow_natCast (by omega : 0x400 + a < 0x800), State.hostWrite,
    goodAccess_bufOffset ha, State.goodWrite, Int.toNat_natCast, if_neg h', hb, h2, if_true,
    Bool.true_eq_false, Bool.false_eq_true, if_false]

/-- A write that answers a next state was in the window. -/
theorem hostAccess_write_next {s t : State} {off : Int} {w : Width} {v : Word}
    (h : hostAccess s (.write off w v) = .next t) :
    inWindow off = true ∧ t = s.hostWrite off.toNat w v := by
  rw [hostAccess] at h
  split at h
  · rename_i h1
    injection h with h
    exact ⟨h1, h.symm⟩
  · simp at h

/-- A read that answers a next state was in the window. -/
theorem hostAccess_read_next {s t : State} {off : Int} {w : Width}
    (h : hostAccess s (.read off w) = .next t) :
    inWindow off = true ∧ t = s.hostRead off.toNat w := by
  rw [hostAccess] at h
  split at h
  · rename_i h1
    injection h with h
    exact ⟨h1, h.symm⟩
  · simp at h

/-- The halves of a 64-bit value joined from two words (R203). -/
@[simp] theorem loHalf_append (h l : Word) : loHalf (h ++ l) = l := by
  apply BitVec.eq_of_getLsbD_eq
  intro i hi
  rw [loHalf, BitVec.getLsbD_extractLsb', BitVec.getLsbD_append]
  simp [hi]

@[simp] theorem hiHalf_append (h l : Word) : hiHalf (h ++ l) = h := by
  apply BitVec.eq_of_getLsbD_eq
  intro i hi
  rw [hiHalf, BitVec.getLsbD_extractLsb', BitVec.getLsbD_append]
  simp [hi]

@[simp] theorem loHalf_setLo (x : DWord) (v : Word) : loHalf (setLo x v) = v := loHalf_append _ _

@[simp] theorem hiHalf_setLo (x : DWord) (v : Word) : hiHalf (setLo x v) = hiHalf x :=
  hiHalf_append _ _

@[simp] theorem loHalf_setHi (x : DWord) (v : Word) : loHalf (setHi x v) = loHalf x :=
  loHalf_append _ _

@[simp] theorem hiHalf_setHi (x : DWord) (v : Word) : hiHalf (setHi x v) = v := hiHalf_append _ _

/-- The key registers in the map (R117). -/
theorem regAt_bfKey : ∀ j : Fin 14, regAt (0x100 + 4 * j.val) = .bfKey j := by decide

/-- The reserved offsets of the map, by word index (R124). -/
theorem regAt_reserved : ∀ k : Fin 256,
    ((5 ≤ k.val ∧ k.val ≤ 7) ∨ (14 ≤ k.val ∧ k.val ≤ 15) ∨ k.val = 23 ∨ k.val = 31 ∨
      (34 ≤ k.val ∧ k.val ≤ 35) ∨ (38 ≤ k.val ∧ k.val ≤ 63) ∨ 78 ≤ k.val) →
    regAt (4 * k.val) = .reserved := by decide +kernel

/-- The registers that are taken even while a command is pending, by word index (R710). -/
theorem regAt_alwaysWritable : ∀ k : Fin 256,
    (regAt (4 * k.val)).alwaysWritable = true ↔ k.val = 2 ∨ k.val = 3 := by decide +kernel

end Sys2Proof.Machine
end

