-- ==== Sys2Proof/Laws/PerInstr.lean ====
section
/-! SUPPORT. Statements about every command, made per command: its word is a legal command. -/

namespace Sys2Proof.Laws.EncodingLegal

/-- The word of `i` is a legal command (R302), and `i` is well-formed. -/
def Statement (i : Instr) : Prop := legalCommand (encode i) = true ∧ i.wellFormed = true

theorem nop : Statement .nop := ⟨rfl, rfl⟩
theorem montmul : Statement .montmul := ⟨rfl, rfl⟩
theorem modexp : Statement .modexp := ⟨rfl, rfl⟩
theorem kaGenerate : Statement .kaGenerate := ⟨rfl, rfl⟩
theorem kaAdopt : Statement .kaAdopt := ⟨rfl, rfl⟩
theorem kaDerive : Statement .kaDerive := ⟨rfl, rfl⟩
theorem kaShare : Statement .kaShare := ⟨rfl, rfl⟩
theorem kaParams : Statement .kaParams := ⟨rfl, rfl⟩
theorem kaClear : Statement .kaClear := ⟨rfl, rfl⟩
theorem bfKeysched : Statement .bfKeysched := ⟨rfl, rfl⟩
theorem bfEncrypt : Statement .bfEncrypt := ⟨rfl, rfl⟩
theorem bfDecrypt : Statement .bfDecrypt := ⟨rfl, rfl⟩
theorem bfClear : Statement .bfClear := ⟨rfl, rfl⟩

end Sys2Proof.Laws.EncodingLegal
end

