-- ==== Sys2Proof/Tests/Slice0.lean ====
section
/-! SUPPORT. Tests: ill-formed words, the words of the opcode map, vectors of spec/95_test_vectors.md, and
for each obligation with hypotheses a state that meets them. -/

namespace Sys2Proof.Tests

open Sys2Proof Sys2Proof.Machine

/-! ## Well-formedness and decoding (R300, R301, R302) -/

theorem test_reserved_bits_refused :
    reservedZero 0x00000100#32 = false ∧ legalCommand 0x00000100#32 = false ∧
    legalCommand 0x80000001#32 = false ∧ decode 0x80000001#32 = .error .reservedBits := by decide

theorem test_reserved_opcodes_refused :
    ([0x03, 0x0F, 0x16, 0x1F, 0x24, 0xFF] : List Nat).all (fun o =>
      !opcodeAssigned o && !legalCommand (BitVec.ofNat 32 o) &&
        decide (decode (BitVec.ofNat 32 o) = .error .reservedOpcode)) = true := by decide

theorem test_one_word_only : decodeBytes [0x01#8] = .error .notOneWord := by decide

theorem test_every_instruction_wellFormed (i : Instr) :
    i.wellFormed = true ∧ legalCommand (encode i) = true := by cases i <;> decide

theorem test_decode_control : decode (0x000000#24 ++ 0b00000000#8) = .ok .nop := by decide

theorem test_decode_modexp :
    decode (0x000000#24 ++ 0b00000001#8) = .ok .montmul ∧
    decode (0x000000#24 ++ 0b00000010#8) = .ok .modexp := by decide

theorem test_decode_key_agreement :
    decode (0x000000#24 ++ 0b00010000#8) = .ok .kaGenerate ∧
    decode (0x000000#24 ++ 0b00010001#8) = .ok .kaAdopt ∧
    decode (0x000000#24 ++ 0b00010010#8) = .ok .kaDerive ∧
    decode (0x000000#24 ++ 0b00010011#8) = .ok .kaShare ∧
    decode (0x000000#24 ++ 0b00010100#8) = .ok .kaParams ∧
    decode (0x000000#24 ++ 0b00010101#8) = .ok .kaClear := by decide

theorem test_decode_blowfish :
    decode (0x000000#24 ++ 0b00100000#8) = .ok .bfKeysched ∧
    decode (0x000000#24 ++ 0b00100001#8) = .ok .bfEncrypt ∧
    decode (0x000000#24 ++ 0b00100010#8) = .ok .bfDecrypt ∧
    decode (0x000000#24 ++ 0b00100011#8) = .ok .bfClear := by decide

/-- R202: the lowest byte of the word comes first on the bus. -/
theorem test_decode_bus_order :
    decodeBytes [0x22#8, 0x00#8, 0x00#8, 0x00#8] = .ok .bfDecrypt ∧
    decodeBytes [0x00#8, 0x00#8, 0x00#8, 0x22#8] = .error .reservedBits := by decide

/-! ## Vectors of spec/95_test_vectors.md -/

/-- The state in which command `i` has just been accepted. -/
def given (i : Instr) (s : State) : State := s.accept (encode i)

/-- The state after the engine's turn for command `i`. -/
def after (i : Instr) (s : State) : State :=
  match exec i s with
  | .next t => t
  | .fault _ => s
  | .refused _ => s

theorem exec_after (i : Instr) (s : State) : exec i s = .next (after i s) := by cases i <;> rfl

/-- `STATUS` and `RES0` after command `i` with the given operands. -/
def ran (i : Instr) (a b n : DWord) : Word × DWord :=
  let t := after i (given i { State.reset with op0 := a, op1 := b, op2 := n })
  (t.statusWord, t.res0)

/-- §2.1. -/
theorem test_montmul_product :
    ran .montmul 3 5 7 = (0x00010002#32, 4#64) ∧
    ran .montmul 0xFFFFFFFFFFFFFFC4 0xFFFFFFFFFFFFFFC4 0xFFFFFFFFFFFFFFC5 =
      (0x00010002#32, 0xCBEEA4E1A08AD8C4#64) := by decide +kernel

/-- §2.1. -/
theorem test_montmul_range :
    ran .montmul 5 7 7 = (0x00011206#32, 0#64) ∧ ran .montmul 1 1 4 = (0x00011206#32, 0#64) := by
  decide +kernel

/-- §2.2. -/
theorem test_modexp_power :
    ran .modexp 0 0 7 = (0x00020002#32, 1#64) ∧
    ran .modexp 3 0xFFFFFFFFFFFFFFFF 0xFFFFFFFFFFFFFFC5 =
      (0x00020002#32, 0xEFA48D5F616F2807#64) := by decide +kernel

/-- §2.2. -/
theorem test_modexp_range : ran .modexp 7 5 7 = (0x00021206#32, 0#64) := by decide +kernel

/-- A source that gives the listed draws in order. -/
def draws (l : List DWord) : Config.Source := fun n => (l.getD n 0, n + 1)

/-- §2.4: the first two draws are rejected. -/
theorem test_sampleX_rejects :
    sampleX (draws [0xFFFFFFFFFFFFFFFF#64, 0xFFFFFFFFFFFFFFFA#64, 0xFFFFFFFFFFFFFFF9#64]) 1 10 5 0 =
      some ⟨10, 2, 3⟩ := by decide +kernel

/-- §2.4. -/
theorem test_candidate :
    candidate 134#64 63 = 0x4000000000000087 ∧ candidate 0x123456789ABCDEF0#64 16 = 0xDEF1 ∧
    candidate 0#64 2 = 3 ∧ candidate 0xFFFFFFFFFFFFFFFF#64 64 = 0xFFFFFFFFFFFFFFFF := by
  decide +kernel

/-- §2.5: `W_p = 4`, `W_g = 3`, `[1, 1]`, draws 0, 2, 0, 0. The first candidate, 9, is composite. -/
theorem test_kaGenerate_draws :
    sampleGenerate (draws [0#64, 2#64, 0#64, 0#64]) 4 3 1 1 9 0 = some ⟨11, 5, 1, 4⟩ := by
  decide +kernel

/-- §2.5: `W_g = 1`. -/
theorem test_kaGenerate_config :
    (after .kaGenerate (given .kaGenerate { State.reset with cfgWg := 1 })).statusWord =
      0x00101106#32 := by decide +kernel

/-- §2.5: `g = 2`, `p = 9`, draw 0. -/
theorem test_kaAdopt_odd_composite :
    ((State.reset.accept (encode .kaAdopt)).finish (kaAdoptRule (draws [0#64])
      { State.reset.accept (encode .kaAdopt) with op0 := 2, op2 := 9, rng := 0 })).statusWord =
      0x00110012#32 := by decide +kernel

/-- §1.5: `p = 4`, `g = 2`. -/
theorem test_kaAdopt_even : ran .kaAdopt 2 0 4 = (0x00110106#32, 0#64) := by decide +kernel

/-- The context of §2.5 after the default `KA_GENERATE` row. -/
def ready : State :=
  { State.reset with
    kaState := .ready, kaP := 0x4000000000000087, kaG := 5, kaX := 4, kaA := 0x271, kaWp := 63 }

/-- §2.5. -/
theorem test_kaDerive_secret :
    (after .kaDerive (given .kaDerive { ready with op0 := 390625 })).res0 = 0x2D6D415B85A28979#64 ∧
    (after .kaDerive (given .kaDerive { ready with op0 := 390625 })).resLen = 8#8 := by
  decide +kernel

/-- §1.7 and §2.5. -/
theorem test_kaDerive_peer :
    (after .kaDerive (given .kaDerive ready)).statusWord = 0x00120316#32 ∧
    (after .kaDerive (given .kaDerive State.reset)).statusWord = 0x00120206#32 := by decide +kernel

/-- §2.5. -/
theorem test_kaShare :
    (after .kaShare (given .kaShare ready)).res0 = 0x271#64 ∧
    (after .kaShare (given .kaShare ready)).statusWord = 0x00130012#32 := by decide +kernel

/-- §2.5. -/
theorem test_kaParams :
    (after .kaParams (given .kaParams ready)).res0 = 0x4000000000000087#64 ∧
    (after .kaParams (given .kaParams ready)).res1 = 5#64 := by decide +kernel

/-- §2.5. -/
theorem test_kaClear :
    (after .kaClear (given .kaClear ready)).statusWord = 0x00150002#32 ∧
    (after .kaClear (given .kaClear ready)).kaP = 0#64 := by decide +kernel

/-- §2.3: the spot values of the tables. -/
theorem test_tables :
    pInit[0] = 0x243F6A88#32 ∧ pInit[17] = 0x8979FB1B#32 ∧ sInit[0][0] = 0xD1310BA6#32 ∧
    sInit[3][255] = 0x3AC372E6#32 := by decide +kernel

/-- §2.6. -/
theorem test_bfKeysched_range :
    (after .bfKeysched (given .bfKeysched { State.reset with bfKeylen := 57 })).statusWord =
      0x00200406#32 := by decide +kernel

/-- R505, by hand: key bytes from index 54 on, taken cyclically modulo 56. -/
theorem test_keyWord_cycles :
    keyWord ((((Vector.replicate 56 0).set 54 0x36#8).set 55 0x37#8).set 1 0x01#8) 56 54 =
      (0x36370001#32, 2) := by decide +kernel

/-- R501, by hand: `((0xFFFFFFFF + 2) XOR 3) + 5 = 7` modulo `2^32`. -/
theorem test_round_function :
    bfF #v[Vector.replicate 256 0xFFFFFFFF#32, Vector.replicate 256 2#32, Vector.replicate 256 3#32,
      Vector.replicate 256 5#32] 0#32 = 7#32 := by decide +kernel

/-- R502, by hand: with all tables zero a round only swaps the halves, and the last swap is undone. -/
theorem test_encBlock_zero_tables :
    encBlock (Vector.replicate 18 0) (Vector.replicate 4 (Vector.replicate 256 0))
      (1#32, 2#32) = (2#32, 1#32) := by decide +kernel

/-- A unit that holds a schedule: all tables zero, so a block is only swapped by the network. -/
def keyed : State := { State.reset with bfKeyed := true }

/-- §2.6. -/
theorem test_bfEncrypt_checks :
    (after .bfEncrypt (given .bfEncrypt { keyed with bfLen := 7 })).statusWord = 0x00210526#32 ∧
    (after .bfEncrypt (given .bfEncrypt { keyed with bfLen := 1032 })).statusWord = 0x00211326#32 := by
  decide +kernel

/-- §2.6. -/
theorem test_bfDecrypt_checks :
    (after .bfDecrypt (given .bfDecrypt { keyed with bfLen := 9 })).statusWord = 0x00220526#32 ∧
    (after .bfDecrypt (given .bfDecrypt State.reset)).statusWord = 0x00220606#32 := by decide +kernel

/-- §2.6. -/
theorem test_bfClear :
    (after .bfClear (given .bfClear keyed)).statusWord = 0x00230002#32 := by decide +kernel

/-- §2.7. -/
theorem test_nop : (after .nop (given .nop State.reset)).statusWord = 0x00000002#32 := by
  decide +kernel

/-- The unit after a step, if it took one. -/
def stepped (s : State) : State :=
  match step s with
  | .next t => t
  | .fault _ => s
  | .refused _ => s

/-- §2.7: an illegal word, written and then performed. -/
theorem test_illegal_word :
    (stepped (stepped { State.reset with
      inputs := [.access (.write 0x010 .w32 0x00000016#32)] })).statusWord = 0x00161006#32 := by
  decide +kernel

/-- §2.7: the order of the bytes of `BUF`. -/
theorem test_buffer_byte_order :
    (stepped (stepped { State.reset with
      inputs := [.access (.write 0x400 .w32 0x88465924#32), .access (.read 0x403 .w8)] })).response =
      .data .w8 0x88#32 := by decide +kernel

/-! ## Witnesses: each statement's hypotheses can be met, at the ends of their ranges -/

theorem test_witness_StepRunsPendingCommand :
    ((given .montmul State.reset).pending = some (encode .montmul) ∧
      decode (encode .montmul) = .ok .montmul ∧ (given .montmul State.reset).inputs = []) ∧
    ({ given .bfClear State.reset with inputs := [.engine] }.pending = some (encode .bfClear) ∧
      decode (encode .bfClear) = .ok .bfClear) ∧
    (State.reset.pending = none ∧ State.reset.inputs = []) := by
  exact ⟨⟨rfl, rfl, rfl⟩, ⟨rfl, rfl⟩, rfl, rfl⟩

theorem test_witness_IllegalWordEndsIllegalCommand :
    (State.reset.accept 0x00000100#32).pending = some 0x00000100#32 ∧
    decode 0x00000100#32 = .error .reservedBits ∧ decode 0x00000003#32 = .error .reservedOpcode ∧
    decode 0x000000FF#32 = .error .reservedOpcode ∧
    (State.reset.accept 0x00000100#32).inputs = [] := by
  exact ⟨rfl, by decide, by decide, by decide, rfl⟩

theorem test_witness_ModExpIsThePowerModN :
    3 % 2 = 1 ∧ 3 ≤ 3 ∧ 0 < 3 ∧ (0 : Nat) < 2 ^ 64 ∧ 2 < 3 ∧ 2 ^ 64 - 1 < 2 ^ 64 := by decide

theorem test_witness_MontgomeryProductUsesTheInverseOfR :
    3 % 2 = 1 ∧ 3 ≤ 3 ∧ 2 ^ 64 * 1 % 3 = 1 ∧ rInv 3 = 1 ∧ rInv 7 = 4 ∧ 2 < 3 := by decide +kernel

theorem test_witness_RedcGivesTheMontgomeryProduct :
    3 % 2 = 1 ∧ 3 ≤ 3 ∧ 3 < 2 ^ 64 ∧ 0xAAAAAAAAAAAAAAAB < 2 ^ 64 ∧
    3 * 0xAAAAAAAAAAAAAAAB % 2 ^ 64 = 1 ∧ 2 < 3 ∧ 0 < 3 := by decide

theorem test_witness_MontgomeryDomainIsMultiplicative : 3 % 2 = 1 ∧ 3 ≤ 3 ∧ 2 < 3 ∧ 0 < 3 := by
  decide

theorem test_witness_PrimesPassMillerRabin :
    2 < 2 ^ 64 ∧ isPrime 2 = true ∧ isPrime 97 = true ∧ isPrime 561 = false := by decide +kernel

theorem test_witness_CandidateHasTopAndLowBitsSet : 2 ≤ 2 ∧ 2 ≤ 64 ∧ 64 ≤ 64 := by decide

theorem test_witness_SampleXIsUnbiased :
    (1 ≤ 1 ∧ 1 ≤ 1 ∧ 1 < 2 ^ 64) ∧ (1 ≤ 1 ∧ 1 ≤ 2 ^ 64 - 1 ∧ 2 ^ 64 - 1 < 2 ^ 64) := by decide

theorem test_witness_NopOnlyCompletes :
    (exec .nop { State.reset with ie := true } = .next (after .nop { State.reset with ie := true })) ∧
    opcField 0x00000100#32 = 0x00#8 ∧ rsvField 0x00000100#32 ≠ 0 ∧
    (State.reset.accept 0x00000100#32).pending = some 0x00000100#32 :=
  ⟨rfl, by decide, by decide, rfl⟩

/-- A unit at reset with the given operands. -/
def operands (a b n : DWord) : State := { State.reset with op0 := a, op1 := b, op2 := n }

theorem test_witness_MontmulGivesTheMontgomeryProduct :
    (operands 0 0 4).op2.toNat % 2 = 0 ∧ (operands 0 0 1).op2.toNat < 3 ∧
    (operands 7 0 7).op2.toNat ≤ (operands 7 0 7).op0.toNat ∧
    (operands 0 7 7).op2.toNat ≤ (operands 0 7 7).op1.toNat ∧
    ((operands 2 2 3).op2.toNat % 2 = 1 ∧ 3 ≤ (operands 2 2 3).op2.toNat ∧
      (operands 2 2 3).op0.toNat < (operands 2 2 3).op2.toNat ∧
      (operands 2 2 3).op1.toNat < (operands 2 2 3).op2.toNat) := by decide

theorem test_witness_ModexpGivesThePower :
    (operands 0 0 2).op2.toNat < 3 ∧ (operands 3 0 3).op2.toNat ≤ (operands 3 0 3).op0.toNat ∧
    ((operands 2 0xFFFFFFFFFFFFFFFF 3).op2.toNat % 2 = 1 ∧
      3 ≤ (operands 2 0xFFFFFFFFFFFFFFFF 3).op2.toNat ∧
      (operands 2 0xFFFFFFFFFFFFFFFF 3).op0.toNat < (operands 2 0xFFFFFFFFFFFFFFFF 3).op2.toNat) := by
  decide

/-! With `W_p = 3` and `W_g = 2` every candidate is prime, and with `xmin = xmax` every draw is
accepted, so the sampling commands complete whatever the open entropy source gives. -/

theorem candidate_three (d : DWord) : candidate d 3 = 5 ∨ candidate d 3 = 7 := by
  have key : ∀ x : Fin 8, x.val ||| 2 ^ (3 - 1) ||| 1 = 5 ∨ x.val ||| 2 ^ (3 - 1) ||| 1 = 7 := by
    decide
  exact key ⟨d.toNat % 2 ^ 3, Nat.mod_lt _ (by decide)⟩

theorem candidate_two (d : DWord) : candidate d 2 = 3 := by
  have key : ∀ x : Fin 4, x.val ||| 2 ^ (2 - 1) ||| 1 = 3 := by decide
  exact key ⟨d.toNat % 2 ^ 2, Nat.mod_lt _ (by decide)⟩

theorem samplePrime_three (next : Config.Source) (left : Nat) (r : Config.RngState) :
    ∃ p, samplePrime next 3 (left + 1) r = some p ∧ p.left = left ∧ (p.value = 5 ∨ p.value = 7) := by
  have hp : isPrime (candidate (next r).1 3) = true := by
    rcases candidate_three (next r).1 with h | h <;> rw [h] <;> decide
  exact ⟨⟨candidate (next r).1 3, left, (next r).2⟩, by simp [samplePrime, hp], rfl,
    candidate_three _⟩

theorem samplePrime_two (next : Config.Source) (left : Nat) (r : Config.RngState) :
    ∃ g, samplePrime next 2 (left + 1) r = some g ∧ g.left = left ∧ g.value = 3 := by
  have hp : isPrime (candidate (next r).1 2) = true := by rw [candidate_two]; decide
  exact ⟨⟨candidate (next r).1 2, left, (next r).2⟩, by simp [samplePrime, hp], rfl,
    candidate_two _⟩

theorem sampleX_one (next : Config.Source) (left : Nat) (r : Config.RngState) :
    ∃ x, sampleX next 1 1 (left + 1) r = some x ∧ x.value = 1 := by
  have hb : (next r).1.toNat < acceptBound (1 - 1 + 1) := (next r).1.isLt
  exact ⟨⟨1 + (next r).1.toNat % (1 - 1 + 1), left, (next r).2⟩, by simp only [sampleX, hb, if_true],
    by simp [Nat.mod_one]⟩

/-- A pending `KA_GENERATE` that completes in one turn. -/
def generating : State :=
  given .kaGenerate { State.reset with cfgWp := 3, cfgWg := 2, cfgXmin := 1, cfgXmax := 1 }

theorem test_witness_KaGenerateInstallsAFreshContext :
    cfgLegalGen 127 3 1 10 = false ∧
    cfgLegalGen generating.cfgWp.toNat generating.cfgWg.toNat generating.cfgXmin.toNat
      generating.cfgXmax.toNat = true ∧
    ∃ p g x : Sampled,
      samplePrime Config.rngNext generating.cfgWp.toNat generating.drawsAllowed generating.rng = some p ∧
      samplePrime Config.rngNext generating.cfgWg.toNat p.left p.rng = some g ∧
      sampleX Config.rngNext generating.cfgXmin.toNat generating.cfgXmax.toNat g.left g.rng = some x ∧
      (p.value = 5 ∨ p.value = 7) ∧ g.value = 3 ∧ x.value = 1 := by
  refine ⟨by decide, by decide, ?_⟩
  obtain ⟨p, hp, hl, hv⟩ := samplePrime_three Config.rngNext 1023 generating.rng
  obtain ⟨g, hg, hgl, hgv⟩ := samplePrime_two Config.rngNext 1022 p.rng
  obtain ⟨x, hx, hxv⟩ := sampleX_one Config.rngNext 1021 g.rng
  exact ⟨p, g, x, hp, hl ▸ hg, hgl ▸ hx, hv, hgv, hxv⟩

/-- The turn of `generating` completes it with `OK`. -/
theorem generating_completes :
    ∃ t : State, exec .kaGenerate generating = .next t ∧ t.pending = none ∧ t.errcode = .ok ∧
      (t.res0 = 5 ∨ t.res0 = 7) ∧ t.res1 = 3 ∧ t.kaState = .ready := by
  obtain ⟨-, hl, p, g, x, hp, hg, hx, hv, hgv, -⟩ := test_witness_KaGenerateInstallsAFreshContext
  have hs : sampleGenerate Config.rngNext generating.wp generating.wg generating.xmin
      generating.xmax generating.drawsAllowed generating.rng =
      some ⟨p.value, g.value, x.value, x.rng⟩ := by
    simp only [sampleGenerate, State.wp, State.wg, State.xmin, State.xmax, hp, hg, hx]
  refine ⟨_, exec_eq _ _, ?_⟩
  rcases kaGenerateRule_cases Config.rngNext generating with h | ⟨-, h, -⟩ | ⟨-, d, h, hr⟩
  · unfold kaGenerateRule at h
    rw [if_neg (by simp [State.wp, State.wg, State.xmin, State.xmax, hl]), hs] at h
    simp at h
  · rw [hs] at h
    simp at h
  · rw [hs] at h
    injection h with h
    subst h
    have hr' : ruleOf .kaGenerate generating = _ := hr
    rw [hr']
    refine ⟨rfl, rfl, ?_, ?_, rfl⟩
    · rcases hv with hv | hv
      · exact .inl (by simp [State.installContext, hv])
      · exact .inr (by simp [State.installContext, hv])
    · simp [State.installContext, hgv]

theorem test_witness_GenerateGivesPrimesAndTheShare :
    ∃ t : State, generating.pending = some (encode .kaGenerate) ∧
      exec .kaGenerate generating = .next t ∧ t.pending = none ∧ t.errcode = .ok := by
  obtain ⟨t, h1, h2, h3, -⟩ := generating_completes
  exact ⟨t, rfl, h1, h2, h3⟩

/-- A pending `KA_ADOPT` with the given parameters that completes in one turn. -/
def adopting (g p : DWord) : State :=
  given .kaAdopt { State.reset with op0 := g, op2 := p, cfgXmin := 1, cfgXmax := 1 }

theorem test_witness_KaAdoptInstallsGivenParameters :
    cfgLegalAdopt 65 1 10 = false ∧ cfgLegalAdopt 63 1 1 = true ∧
    ((adopting 2 1).op2.toNat ≤ 1 ∧ (adopting 1 7).op0.toNat ≤ 1 ∧
      (adopting 5 5).op2.toNat ≤ (adopting 5 5).op0.toNat ∧ (adopting 2 4).op2.toNat % 2 = 0 ∧
      2 ^ (adopting 2 0x800000000000001D).cfgWp.toNat ≤ (adopting 2 0x800000000000001D).op2.toNat) ∧
    (1 < (adopting 2 3).op0.toNat ∧ (adopting 2 3).op0.toNat < (adopting 2 3).op2.toNat ∧
      (adopting 2 3).op2.toNat % 2 = 1 ∧ (adopting 2 3).op2.toNat < 2 ^ (adopting 2 3).cfgWp.toNat) ∧
    ∃ x : Sampled, sampleX Config.rngNext (adopting 2 3).cfgXmin.toNat (adopting 2 3).cfgXmax.toNat
      (adopting 2 3).drawsAllowed (adopting 2 3).rng = some x := by
  obtain ⟨x, hx, -⟩ := sampleX_one Config.rngNext 1023 (adopting 2 3).rng
  exact ⟨by decide, by decide, by decide, by decide, x, hx⟩

/-- The turn of `adopting g p` completes it with `OK` when the parameters pass the checks. -/
theorem adopting_completes (g p : DWord) (h : adoptOk (adopting g p)) :
    ∃ t : State, exec .kaAdopt (adopting g p) = .next t ∧ t.pending = none ∧ t.errcode = .ok ∧
      t.kaState = .ready := by
  obtain ⟨x, hx, -⟩ := sampleX_one Config.rngNext 1023 (adopting g p).rng
  have hx : sampleX Config.rngNext (adopting g p).xmin (adopting g p).xmax
      (adopting g p).drawsAllowed (adopting g p).rng = some x := by
    rw [show (adopting g p).xmin = 1 from rfl, show (adopting g p).xmax = 1 from rfl,
      show (adopting g p).drawsAllowed = 1023 + 1 by
        simp [State.drawsAllowed, adopting, given, State.reset, Config.drawsPerTurn]]
    exact hx
  have hl : cfgLegalAdopt (adopting g p).wp (adopting g p).xmin (adopting g p).xmax = true := rfl
  refine ⟨_, exec_eq _ _, ?_⟩
  have hr : ruleOf .kaAdopt (adopting g p) = .complete ((adopting g p).installContext
      (adopting g p).op2Nat (adopting g p).op0Nat x.value (adopting g p).cfgWp x.rng) := by
    obtain ⟨h1, h2, h3, h4, h5⟩ := h
    show kaAdoptRule Config.rngNext (adopting g p) = _
    unfold kaAdoptRule
    rw [if_neg (by rw [hl]; decide), if_neg (by omega), if_neg (by omega), if_neg (by omega), hx]
  rw [hr]
  exact ⟨rfl, rfl, rfl⟩

theorem test_witness_BothPartiesDeriveTheSameSecret :
    ∃ tI tR : State, generating.pending = some (encode .kaGenerate) ∧
      exec .kaGenerate generating = .next tI ∧ tI.pending = none ∧ tI.errcode = .ok ∧
      (adopting tI.res1 tI.res0).op0 = tI.res1 ∧ (adopting tI.res1 tI.res0).op2 = tI.res0 ∧
      (adopting tI.res1 tI.res0).pending = some (encode .kaAdopt) ∧
      exec .kaAdopt (adopting tI.res1 tI.res0) = .next tR ∧ tR.pending = none ∧ tR.errcode = .ok ∧
      { tI with op0 := tR.res2 }.kaState = tI.kaState ∧
      { tR with op0 := tI.res2 }.kaState = tR.kaState := by
  obtain ⟨tI, h1, h2, h3, h4, h5, -⟩ := generating_completes
  have hok : adoptOk (adopting tI.res1 tI.res0) := by
    rw [h5]
    rcases h4 with h | h <;> rw [h] <;> unfold adoptOk <;> decide
  obtain ⟨tR, k1, k2, k3, -⟩ := adopting_completes _ _ hok
  exact ⟨tI, tR, rfl, h1, h2, h3, rfl, rfl, rfl, k1, k2, k3, rfl, rfl⟩

theorem test_witness_SamplingCompletesExactlyWhenItsDrawsDo :
    ((given .kaGenerate State.reset).inputs = [] ∧
      (given .kaGenerate State.reset).pending = some (encode .kaGenerate) ∧
      cfgLegalGen 63 3 1 10 = true) ∧
    ((adopting 2 3).inputs = [] ∧ (adopting 2 3).pending = some (encode .kaAdopt) ∧
      cfgLegalAdopt 63 1 1 = true ∧ 1 < (adopting 2 3).op0.toNat ∧
      (adopting 2 3).op0.toNat < (adopting 2 3).op2.toNat ∧ (adopting 2 3).op2.toNat % 2 = 1 ∧
      (adopting 2 3).op2.toNat < 2 ^ (adopting 2 3).cfgWp.toNat) :=
  ⟨⟨rfl, rfl, by decide⟩, rfl, rfl, by decide, by decide, by decide, by decide, by decide⟩

theorem test_witness_KaDeriveGivesTheSharedSecret :
    State.reset.kaState = .empty ∧ ready.kaState = .ready ∧ ready.op0 = 0 ∧
    ready.kaP.toNat ≤ { ready with op0 := 0x4000000000000087 }.op0.toNat ∧
    0 < { ready with op0 := 1 }.op0.toNat ∧
    { ready with op0 := 0x4000000000000086 }.op0.toNat < ready.kaP.toNat := by decide +kernel

/-- A unit that holds a context, with a peer share in `OP0`. -/
def peer : State := { ready with op0 := 1 }

/-- `peer` satisfies the invariant. -/
theorem peer_inv : peer.Inv where
  bufWf := rfl
  pendingFields := fun w h => by simp [peer, ready, State.reset] at h
  idle := fun _ => rfl
  context := fun _ =>
    { odd := by decide, three_le := by decide, lt_width := by decide +kernel,
      two_le_width := by decide, width_le := by decide, one_lt_g := by decide, g_lt := by decide,
      x_pos := by decide, share := by decide +kernel }
  noContext := fun h => by simp [peer, ready] at h
  schedule := fun h => by simp [peer, ready, State.reset] at h
  noSchedule := fun _ => ⟨rfl, rfl⟩
  resLen := by decide

theorem test_witness_SharedSecretBytesAreLittleEndian :
    peer.Inv ∧ peer.kaState = .ready ∧ 0 < peer.op0.toNat ∧ peer.op0.toNat < peer.kaP.toNat ∧
    exec .kaDerive peer = .next (after .kaDerive peer) :=
  ⟨peer_inv, rfl, by decide, by decide, rfl⟩

theorem test_witness_KaShareAndKaParamsCopyTheContext :
    State.reset.kaState = .empty ∧ ready.kaState = .ready := ⟨rfl, rfl⟩

theorem test_witness_BfKeyschedInstallsTheSchedule :
    State.reset.bfKeylen.toNat < 1 ∧ 56 < { State.reset with bfKeylen := 57 }.bfKeylen.toNat ∧
    (1 ≤ { State.reset with bfKeylen := 1 }.bfKeylen.toNat ∧
      { State.reset with bfKeylen := 56 }.bfKeylen.toNat ≤ 56) := by decide

/-- `BF_ENCRYPT`, `BF_DECRYPT` and the two round-trip statements have the same hypotheses. -/
theorem test_witness_BfEncryptTransformsEachBlock :
    State.reset.bfKeyed = false ∧
    (keyed.bfKeyed = true ∧ { keyed with bfLen := 1025 }.bfLen.toNat % 8 ≠ 0) ∧
    ({ keyed with bfLen := 1032 }.bfLen.toNat % 8 = 0 ∧
      1024 < { keyed with bfLen := 1032 }.bfLen.toNat) ∧
    ({ keyed with bfLen := 1024 }.bfLen.toNat % 8 = 0 ∧
      { keyed with bfLen := 1024 }.bfLen.toNat ≤ 1024) ∧
    keyed.bfLen.toNat % 8 = 0 := by decide

/-- Two equal blocks of zeros, under a schedule. -/
def twoBlocks : State :=
  { keyed with bfLen := 16, buf := Memory.writeLE (Memory.writeLE [] 0 8 0) 8 8 0 }

theorem test_witness_BlocksAreTransformedIndependently :
    twoBlocks.bfKeyed = true ∧ twoBlocks.bfLen.toNat % 8 = 0 ∧ twoBlocks.bfLen.toNat ≤ 1024 ∧
    0 < twoBlocks.bfLen.toNat / 8 ∧ 1 < twoBlocks.bfLen.toNat / 8 ∧
    (∀ j : Nat, j < 8 → twoBlocks.bufByte (8 * 0 + j) = twoBlocks.bufByte (8 * 1 + j)) ∧
    exec .bfEncrypt twoBlocks = .next (after .bfEncrypt twoBlocks) ∧
    exec .bfDecrypt twoBlocks = .next (after .bfDecrypt twoBlocks) := by
  refine ⟨rfl, by decide, by decide, by decide, by decide, ?_, exec_after _ _, exec_after _ _⟩
  intro j hj
  have h : j = 0 ∨ j = 1 ∨ j = 2 ∨ j = 3 ∨ j = 4 ∨ j = 5 ∨ j = 6 ∨ j = 7 := by omega
  rcases h with rfl | rfl | rfl | rfl | rfl | rfl | rfl | rfl <;> rfl

theorem test_witness_KeyIsMixedInCyclically :
    1 ≤ 1 ∧ 1 ≤ 56 ∧ 1 ≤ 56 ∧ 56 ≤ 56 := by decide

theorem test_witness_CyclicKeysGiveOneSchedule (i : Nat) :
    (Vector.replicate 56 (0 : Byte))[i % 1]? = (Vector.replicate 56 (0 : Byte))[i % 56]? := by
  have h1 : i % 1 < 56 := by omega
  have h2 : i % 56 < 56 := by omega
  simp [h1, h2]

theorem test_witness_ContextChangesOnlyByItsCommands :
    step { ready with inputs := [.reset] } = .next (stepped { ready with inputs := [.reset] }) ∧
    (stepped { ready with inputs := [.reset] }).kaP ≠ ready.kaP ∧
    step (given .kaClear ready) = .next (stepped (given .kaClear ready)) ∧
    (stepped (given .kaClear ready)).kaP ≠ (given .kaClear ready).kaP :=
  ⟨rfl, by decide, rfl, by decide +kernel⟩

/-- A unit that holds another entropy state than the one a seeding with zero gives. -/
def unseeded : State :=
  { State.reset with
    rng := Config.rngInit (0#32 ++ 0#32) + 1, inputs := [.access (.write 0x084 .w32 0#32)] }

theorem test_witness_EntropyChangesOnlyByDrawsAndSeeding :
    step unseeded = .next (stepped unseeded) ∧ (stepped unseeded).rng ≠ unseeded.rng := by
  refine ⟨rfl, ?_⟩
  show Config.rngInit (0#32 ++ 0#32) ≠ Config.rngInit (0#32 ++ 0#32) + 1
  exact (Nat.succ_ne_self _).symm

theorem test_witness_CompletionSetsTheFlags :
    (given .nop State.reset).pending = some (encode .nop) ∧
    exec .nop (given .nop State.reset) = .next (after .nop (given .nop State.reset)) := ⟨rfl, rfl⟩

/-- This is also the witness for the frame of all commands and for the interrupt at a completion. -/
theorem test_witness_FailedCommandChangesNothingElse :
    let s := given .montmul { State.reset with ie := true }
    s.pending = some (encode .montmul) ∧ exec .montmul s = .next (after .montmul s) ∧
    (after .montmul s).pending = none ∧ (after .montmul s).errcode ≠ .ok ∧ s.ie = true :=
  ⟨rfl, rfl, rfl, by decide, rfl⟩

theorem test_witness_OtherCommandsCompleteInOneTurn :
    (given .bfClear State.reset).pending = some (encode .bfClear) ∧
    encode .bfClear ≠ encode .kaGenerate ∧ encode .bfClear ≠ encode .kaAdopt ∧
    (State.reset.accept 0x00000012#32).pending ≠ some (encode .kaAdopt) ∧
    (given .bfClear State.reset).inputs = [] := ⟨rfl, by decide, by decide, by decide, rfl⟩

/-- A unit with a pending `MODEXP`. -/
def working : State := given .modexp (operands 2 10 1000003)

theorem test_witness_ResultsDoNotDependOnTiming :
    ∃ s' t t' : State, working.busy = true ∧
      hostAccess working (.write 0x028 .w32 0#32) = .next s' ∧ exec .modexp working = .next t ∧
      exec .modexp s' = .next t' :=
  ⟨_, _, _, rfl, rfl, exec_eq _ _, exec_eq _ _⟩

theorem test_witness_InterruptFollowsEnableAndDone :
    State.reset.busy = false ∧
    (∀ a ∈ [Access.write 0x010 .w32 0#32, .write 0x00C .w32 2#32, .write 0x008 .w32 1#32,
      .read 0x7FF .w8, .write 0x008 .w8 1#32], ∃ t, hostAccess State.reset a = .next t) ∧
    (∃ t, hostAccess working (.write 0x010 .w32 1#32) = .next t) ∧ working.busy = true := by
  refine ⟨rfl, fun a ha => ?_, ⟨_, rfl⟩, rfl⟩
  fin_cases ha <;> exact ⟨_, rfl⟩

theorem test_witness_CommandWriteIsAcceptedOrDropped :
    State.reset.pending = none ∧ working.pending = some (encode .modexp) ∧
    ∃ t, hostAccess State.reset (.write 0x010 .w32 0#32) = .next t := ⟨rfl, rfl, _, rfl⟩

theorem test_witness_BusyWritesAreDropped :
    working.busy = true ∧ 0x7FF < 0x800 ∧ goodAccess 0x7FF .w8 = true ∧
    goodAccess 0x000 .w32 = true ∧ goodAccess 0x3FC .w32 = true ∧ goodAccess 0x400 .w32 = true := by
  decide

theorem test_witness_BadAccessGetsABusError :
    (0x000 < 0x400 ∧ Width.w8 ≠ .w32) ∧ (0x3FE < 0x400 ∧ 0x3FE % 4 ≠ 0) ∧
    (0x400 ≤ 0x401 ∧ 0x401 % Width.w16.bytes ≠ 0) ∧
    (0x400 ≤ 0x7FE ∧ 0x7FE < 0x800 ∧ 0x7FE % Width.w32.bytes ≠ 0) := by decide

theorem test_witness_ReadsHaveNoSideEffect :
    (∃ t, hostAccess State.reset (.read 0x000 .w32) = .next t) ∧ 0x3FC < 0x400 ∧ 0x3FC % 4 = 0 :=
  ⟨⟨_, rfl⟩, by decide, by decide⟩

/-- This is also the witness for the operand halves and for seeding. -/
theorem test_witness_RegistersReadBackWhatWasWritten :
    State.reset.busy = false ∧
    ∀ r ∈ [((0x008, 1) : Nat × Nat), (0x060, 7), (0x094, 32)],
      r ∈ [(0x008, 1), (0x020, 32), (0x024, 32), (0x028, 32), (0x02C, 32), (0x030, 32),
        (0x034, 32), (0x060, 7), (0x064, 7), (0x068, 32), (0x06C, 32), (0x070, 32), (0x074, 32),
        (0x090, 8), (0x094, 32)] := by decide

theorem test_witness_ReadOnlyAndReservedOffsets :
    State.reset.busy = false ∧ 0x000 % 4 = 0 ∧ 0x3FC % 4 = 0 ∧ 0x014 % 4 = 0 ∧ 0x134 % 4 = 0 ∧
    0x078 % 4 = 0 := by decide

theorem test_witness_KeyRegistersTakeFourBytes :
    State.reset.busy = false ∧ (0 : Fin 14).val = 0 ∧ (13 : Fin 14).val = 13 := by decide

theorem test_witness_BufferWritesReadBack :
    State.reset.busy = false ∧ (0x3FF < 0x400 ∧ 0x3FF % Width.w8.bytes = 0) ∧
    (0x3FC < 0x400 ∧ 0x3FC % Width.w32.bytes = 0) ∧ 0 % Width.w16.bytes = 0 := by decide

theorem test_witness_BufferReadsDuringCommands :
    0x3FF % Width.w8.bytes = 0 ∧
    (working.pending ≠ some (encode .bfEncrypt) ∧ working.pending ≠ some (encode .bfDecrypt)) ∧
    (given .bfEncrypt State.reset).pending = some (encode .bfEncrypt) ∧
    (given .bfDecrypt State.reset).pending = some (encode .bfDecrypt) := by decide

theorem test_witness_SecretsNeverReachTheBus :
    (∃ t, hostAccess ready (.read 0x040 .w32) = .next t) ∧
    ∃ t, hostAccess { ready with kaX := 9 } (.read 0x040 .w32) = .next t := ⟨⟨_, rfl⟩, _, rfl⟩

theorem test_witness_AccessOutsideTheWindowFaults :
    (-1 : Int) < 0 ∧ (0x800 : Int) ≤ 0x800 := by decide

theorem test_witness_ResetAbandonsThePendingCommand :
    { working with inputs := [.reset] }.inputs = .reset :: [] ∧
    { working with inputs := [.reset] }.busy = true := ⟨rfl, rfl⟩

theorem test_witness_EveryStepKeepsTheInvariant :
    peer.Inv ∧ step peer = .next peer := ⟨peer_inv, rfl⟩

end Sys2Proof.Tests
end

namespace Sys2Proof.Machine

/-! ### Decoding (R301, R302) -/

/-- A word whose reserved field is zero is its opcode field (R300). -/
theorem toNat_opcField_of_rsvField {w : Word} (h : rsvField w = 0) :
    (opcField w).toNat = w.toNat := by
  have hw := w.isLt
  have hr : w.toNat / 2 ^ 8 % 2 ^ 24 = 0 := by
    simpa [rsvField, Nat.shiftRight_eq_div_pow] using congrArg BitVec.toNat h
  rw [opcField, BitVec.extractLsb'_toNat, Nat.shiftRight_zero]
  omega

/-- The opcode map lists each command under its own word (R301). -/
theorem opcodeMap_eq_some {o : Nat} {i : Instr} (h : opcodeMap o = some i) :
    o = (encode i).toNat := by
  unfold opcodeMap at h
  split at h <;> cases h <;> rfl

theorem decode_encode (i : Instr) : decode (encode i) = .ok i := by cases i <;> rfl

/-- No word but a command's own decodes to it (R302). -/
theorem decode_eq_ok_iff {w : Word} {i : Instr} : decode w = .ok i ↔ w = encode i := by
  refine ⟨fun h => ?_, fun h => h ▸ decode_encode i⟩
  unfold decode at h
  split at h
  · rename_i hr
    split at h
    · rename_i j hj
      injection h with h
      subst h
      exact BitVec.eq_of_toNat_eq
        ((toNat_opcField_of_rsvField hr).symm.trans (opcodeMap_eq_some hj))
    · cases h
  · cases h

/-! ### What a step can do -/

/-- What the engine's turn can do (R105, R306). -/
theorem engineTurn_cases {s t : State} (h : engineTurn s = .next t) :
    (s.pending = none ∧ t = s) ∨
    (∃ i, s.pending = some (encode i) ∧ t = s.finish (ruleOf i s)) ∨
    ∃ w, s.pending = some w ∧ t = s.complete .illegalCommand := by
  unfold engineTurn at h
  split at h
  · rename_i hp
    injection h with h
    exact .inl ⟨hp, h.symm⟩
  · rename_i w hp
    split at h
    · rename_i i hd
      rw [exec_eq] at h
      injection h with h
      exact .inr (.inl ⟨i, decode_eq_ok_iff.1 hd ▸ hp, h.symm⟩)
    · injection h with h
      exact .inr (.inr ⟨w, hp, h.symm⟩)

/-- What a write at a window offset can do (R207, R209, R210, R710). -/
theorem State.hostWrite_cases (s : State) (off : Nat) (w : Width) (v : Word) :
    s.hostWrite off w v = { s with response := .busError none } ∨
    s.hostWrite off w v = { s.dropWrite with response := .written } ∨
    (off < Config.bufOffset ∧ w = .w32 ∧
      (s.busy = false ∨ (regAt off).alwaysWritable = true) ∧
      s.hostWrite off w v = { s.writeReg v (regAt off) with response := .written }) ∨
    (goodAccess off w = true ∧ Config.bufOffset ≤ off ∧ s.busy = false ∧
      s.hostWrite off w v =
        { s.memWrite (off - Config.bufOffset) w.bytes v.toNat with response := .written }) := by
  unfold State.hostWrite
  split
  · exact .inl rfl
  · rename_i hg
    rw [Bool.not_eq_false] at hg
    rcases s.goodWrite_cases off w v with ⟨-, he⟩ | ⟨hlt, hb, he⟩ | ⟨hle, hb, he⟩ <;> rw [he]
    · exact .inr (.inl rfl)
    · have hw : w = .w32 := by
        rw [goodAccess, if_pos hlt, Bool.and_eq_true, decide_eq_true_eq] at hg
        exact hg.1
      exact .inr (.inr (.inl ⟨hlt, hw, hb, rfl⟩))
    · exact .inr (.inr (.inr ⟨hg, hle, hb, rfl⟩))

/-- The inputs in which the engine has the turn, and those that are left after it (R716). -/
def State.engineNext (s : State) (rest : List Input) : Prop :=
  (s.inputs = [] ∧ rest = []) ∨ s.inputs = .engine :: rest

/-- What a step can do: a reset, a read, a write, or the engine's turn. -/
theorem step_cases {s t : State} (h : step s = .next t) :
    (∃ rest, s.inputs = .reset :: rest ∧ t = State.resetUnit { s with inputs := rest }) ∨
    (∃ rest off w, s.inputs = .access (.read off w) :: rest ∧
      t = State.hostRead { s with inputs := rest } off.toNat w) ∨
    (∃ rest off w v, s.inputs = .access (.write off w v) :: rest ∧ inWindow off = true ∧
      t = State.hostWrite { s with inputs := rest } off.toNat w v) ∨
    ∃ rest, s.engineNext rest ∧ engineTurn { s with inputs := rest } = .next t := by
  unfold step nextEvent at h
  split at h
  · rename_i hi
    refine .inr (.inr (.inr ⟨[], .inl ⟨hi, rfl⟩, ?_⟩))
    rw [← h, ← hi]
  · rename_i rest hi
    exact .inr (.inr (.inr ⟨rest, .inr hi, h⟩))
  · rename_i a rest hi
    cases a with
    | read off w => exact .inr (.inl ⟨rest, off, w, hi, (hostAccess_read_next h).2⟩)
    | write off w v =>
      obtain ⟨hin, ht⟩ := hostAccess_write_next h
      exact .inr (.inr (.inl ⟨rest, off, w, v, hi, hin, ht⟩))
  · rename_i rest hi
    injection h with h
    exact .inl ⟨rest, hi, h.symm⟩

/-! ### Powers, candidates and draws (R404, R453 to R455) -/

/-- Square-and-multiply over `k` bits gives the power by the low `k` bits of the exponent (R404). -/
theorem powMod_eq_pow_mod (b n k e : Nat) : powMod b n k e = b ^ (e % 2 ^ k) % n := by
  induction k generalizing e with
  | zero => simp [powMod, Nat.mod_one]
  | succ k ih =>
    have he : e % 2 ^ (k + 1) = e % 2 + (e / 2 % 2 ^ k + e / 2 % 2 ^ k) := by
      rw [pow_succ', Nat.mod_mul, two_mul]
    simp only [powMod, ih]
    rw [he, pow_add, pow_add]
    split
    · rename_i h1
      rw [h1, pow_one, ← Nat.mul_mod, Nat.mod_mul_mod, mul_comm b]
    · rename_i h1
      rw [show e % 2 = 0 by omega, pow_zero, one_mul, ← Nat.mul_mod]

/-- `ModExp` of a 64-bit exponent is the power modulo `n` (R404). -/
theorem modExp_eq_pow_mod (b n : Nat) {e : Nat} (he : e < 2 ^ 64) : modExp b e n = b ^ e % n := by
  rw [modExp, powMod_eq_pow_mod, Nat.mod_eq_of_lt he]

/-- A candidate has its top bit set (R453). -/
theorem two_pow_le_candidate (d : DWord) (w : Nat) : 2 ^ (w - 1) ≤ candidate d w :=
  Nat.right_le_or.trans Nat.left_le_or

/-- A candidate is odd (R453). -/
theorem candidate_mod_two (d : DWord) (w : Nat) : candidate d w % 2 = 1 := by
  simp [candidate, Nat.or_mod_two_eq_one]

/-- A candidate fits its width (R453). -/
theorem candidate_lt_two_pow (d : DWord) {w : Nat} (hw : 1 ≤ w) : candidate d w < 2 ^ w :=
  Nat.or_lt_two_pow
    (Nat.or_lt_two_pow (Nat.mod_lt _ (by positivity)) (Nat.pow_lt_pow_right (by omega) (by omega)))
    (Nat.one_lt_two_pow (by omega))

/-- A candidate of at least two bits is at least 3 (R453). -/
theorem three_le_candidate (d : DWord) {w : Nat} (hw : 2 ≤ w) : 3 ≤ candidate d w := by
  have h1 := two_pow_le_candidate d w
  have h2 := candidate_mod_two d w
  have h3 : 2 ^ 1 ≤ 2 ^ (w - 1) := Nat.pow_le_pow_right (by omega) (by omega)
  omega

/-- What `SamplePrime` finds is a prime candidate (R454). -/
theorem samplePrime_candidate {next : Config.Source} {w left : Nat} {r : Config.RngState}
    {p : Sampled} (h : samplePrime next w left r = some p) :
    ∃ d, p.value = candidate d w ∧ isPrime p.value = true := by
  induction left generalizing r with
  | zero => cases h
  | succ left ih =>
    simp only [samplePrime] at h
    split at h
    · rename_i hp
      cases h
      exact ⟨_, rfl, hp⟩
    · exact ih h

/-- What `SampleX` finds lies in its range (R455). -/
theorem sampleX_mem {next : Config.Source} {xmin xmax left : Nat} {r : Config.RngState}
    {x : Sampled} (hle : xmin ≤ xmax) (h : sampleX next xmin xmax left r = some x) :
    xmin ≤ x.value ∧ x.value ≤ xmax := by
  induction left generalizing r with
  | zero => cases h
  | succ left ih =>
    simp only [sampleX] at h
    split at h
    · cases h
      have hm := Nat.mod_lt (next r).1.toNat (by omega : 0 < xmax - xmin + 1)
      exact ⟨by simp, by simp only; omega⟩
    · exact ih h

/-- `KA_GENERATE`'s draws: a prime of each width and an exponent (R457). -/
theorem sampleGenerate_eq_some {next : Config.Source} {wp wg xmin xmax left : Nat}
    {r : Config.RngState} {d : Generated}
    (h : sampleGenerate next wp wg xmin xmax left r = some d) :
    ∃ p g x : Sampled, samplePrime next wp left r = some p ∧
      samplePrime next wg p.left p.rng = some g ∧
      sampleX next xmin xmax g.left g.rng = some x ∧ d = ⟨p.value, g.value, x.value, x.rng⟩ := by
  unfold sampleGenerate at h
  split at h
  · cases h
  · rename_i p hp
    split at h
    · cases h
    · rename_i g hg
      split at h
      · cases h
      · rename_i x hx
        cases h
        exact ⟨p, g, x, hp, hg, hx, rfl⟩

end Sys2Proof.Machine

namespace Sys2Proof.Machine

/-! ### What the commands write -/

/-- Parameters that make a context of width `w` (R121), with an exponent of 64 bits. -/
structure GoodParams (p g x w : Nat) : Prop where
  odd : p % 2 = 1
  three_le : 3 ≤ p
  lt_width : p < 2 ^ w
  two_le_width : 2 ≤ w
  width_le : w ≤ 64
  one_lt_g : 1 < g
  g_lt : g < p
  x_pos : 1 ≤ x
  x_lt : x < 2 ^ 64

/-- The states that the writes of a command, before its completion, can make. -/
inductive CommandWrites (s : State) : Instr → State → Prop where
  | results (i : Instr) (r0 r1 : DWord) : CommandWrites s i { s with res0 := r0, res1 := r1 }
  | secret (r0 : DWord) (hr : s.kaState = .ready) :
      CommandWrites s .kaDerive
        { s with res0 := r0, resLen := BitVec.ofNat 8 ((s.kaWp.toNat + 7) / 8) }
  | context {i : Instr} (hi : i = .kaGenerate ∨ i = .kaAdopt) {p g x : Nat} (r : Config.RngState)
      (hp : GoodParams p g x s.cfgWp.toNat) :
      CommandWrites s i (s.installContext p g x s.cfgWp r)
  | clearContext : CommandWrites s .kaClear s.clearContext
  | schedule {n : Nat} {k : PArray × SBoxes} (hmin : Config.keyMin ≤ n) (hmax : n ≤ Config.keyMax)
      (hk : keySchedule s.key n = k) : CommandWrites s .bfKeysched (s.installSchedule k)
  | blocks {i : Instr} (hi : i = .bfEncrypt ∨ i = .bfDecrypt) (f : Word × Word → Word × Word)
      {n : Nat} (hn : 8 * n ≤ Config.bufBytes) : CommandWrites s i (s.mapBlocks f n)
  | clearSchedule : CommandWrites s .bfClear s.clearSchedule

/-- `CfgLegalGen`, clause by clause (R456). -/
theorem cfgLegalGen_iff {wp wg xmin xmax : Nat} : cfgLegalGen wp wg xmin xmax = true ↔
    2 ≤ wg ∧ wg < wp ∧ wp ≤ 64 ∧ 1 ≤ xmin ∧ xmin ≤ xmax := by
  simp [cfgLegalGen, and_assoc]

/-- `CfgLegalAdopt`, clause by clause (R456). -/
theorem cfgLegalAdopt_iff {wp xmin xmax : Nat} : cfgLegalAdopt wp xmin xmax = true ↔
    2 ≤ wp ∧ wp ≤ 64 ∧ 1 ≤ xmin ∧ xmin ≤ xmax := by
  simp [cfgLegalAdopt, and_assoc]

/-- What `KA_GENERATE` samples under a legal configuration makes a context (R460, R121). The
generator is below `p` because it has fewer bits and `p` has its top bit set (R453). -/
theorem sampleGenerate_goodParams {next : Config.Source} {wp wg xmin xmax left : Nat}
    {r : Config.RngState} {d : Generated} (hl : cfgLegalGen wp wg xmin xmax = true)
    (hmax : xmax < 2 ^ 64) (h : sampleGenerate next wp wg xmin xmax left r = some d) :
    GoodParams d.p d.g d.x wp := by
  obtain ⟨hwg, hlt, hwp, hx1, hx2⟩ := cfgLegalGen_iff.1 hl
  obtain ⟨p, g, x, hp, hg, hx, hd⟩ := sampleGenerate_eq_some h
  obtain ⟨dp, hdp, -⟩ := samplePrime_candidate hp
  obtain ⟨dg, hdg, -⟩ := samplePrime_candidate hg
  obtain ⟨hxmin, hxmax⟩ := sampleX_mem hx2 hx
  have hg3 := three_le_candidate dg hwg
  have hgp : candidate dg wg < candidate dp wp :=
    calc candidate dg wg < 2 ^ wg := candidate_lt_two_pow dg (by omega)
      _ ≤ 2 ^ (wp - 1) := Nat.pow_le_pow_right (by omega) (by omega)
      _ ≤ candidate dp wp := two_pow_le_candidate dp wp
  rw [show d.p = candidate dp wp from hd ▸ hdp, show d.g = candidate dg wg from hd ▸ hdg,
    show d.x = x.value from hd ▸ rfl]
  exact ⟨candidate_mod_two dp wp, three_le_candidate dp (by omega),
    candidate_lt_two_pow dp (by omega), by omega, hwp, by omega, hgp, by omega, by omega⟩

/-- Parameters that pass the checks of `KA_ADOPT` make a context (R462, R121). -/
theorem adoptOk.goodParams {s : State} {next : Config.Source} {left : Nat} {r : Config.RngState}
    {d : Sampled} (hs : adoptOk s) (hl : cfgLegalAdopt s.wp s.xmin s.xmax = true)
    (h : sampleX next s.xmin s.xmax left r = some d) :
    GoodParams s.op2Nat s.op0Nat d.value s.wp := by
  obtain ⟨hp1, hg1, hgp, hodd, hlt⟩ := hs
  obtain ⟨hw2, hw64, hx1, hx2⟩ := cfgLegalAdopt_iff.1 hl
  obtain ⟨hxmin, hxmax⟩ := sampleX_mem hx2 h
  have hmax : s.xmax < 2 ^ 64 := s.cfgXmax.isLt
  exact ⟨hodd, by omega, hlt, hw2, hw64, hg1, hgp, by omega, by omega⟩

/-- How a command's rule ends: a code other than `OK`, no completion yet, or writes of its own. -/
theorem ruleOf_cases (i : Instr) (s : State) :
    (∃ e, e ≠ .ok ∧ ruleOf i s = .raise e) ∨ ruleOf i s = .drawing ∨
    ∃ u, CommandWrites s i u ∧ ruleOf i s = .complete u := by
  cases i with
  | nop => exact .inr (.inr ⟨s, .results _ s.res0 s.res1, rfl⟩)
  | montmul =>
    rcases montmulRule_cases s with h | ⟨-, -, -, h⟩
    · exact .inl ⟨_, by decide, h⟩
    · exact .inr (.inr ⟨_, .results _ _ s.res1, h⟩)
  | modexp =>
    rcases modexpRule_cases s with h | ⟨-, -, h⟩
    · exact .inl ⟨_, by decide, h⟩
    · exact .inr (.inr ⟨_, .results _ _ s.res1, h⟩)
  | kaGenerate =>
    rcases kaGenerateRule_cases Config.rngNext s with h | ⟨-, -, h⟩ | ⟨hl, d, hd, h⟩
    · exact .inl ⟨_, by decide, h⟩
    · exact .inr (.inl h)
    · exact .inr (.inr
        ⟨_, .context (.inl rfl) d.rng (sampleGenerate_goodParams hl s.cfgXmax.isLt hd), h⟩)
  | kaAdopt =>
    rcases kaAdoptRule_cases Config.rngNext s with ⟨e, he, h⟩ | ⟨-, -, -, h⟩ | ⟨hl, ha, d, hd, h⟩
    · exact .inl ⟨e, he, h⟩
    · exact .inr (.inl h)
    · exact .inr (.inr ⟨_, .context (.inr rfl) d.rng (ha.goodParams hl hd), h⟩)
  | kaDerive =>
    rcases kaDeriveRule_cases s with ⟨e, he, h⟩ | ⟨hr, -, -, h⟩
    · exact .inl ⟨e, he, h⟩
    · exact .inr (.inr ⟨_, .secret _ hr, h⟩)
  | kaShare =>
    rcases kaShareRule_cases s with ⟨-, h⟩ | ⟨-, h⟩
    · exact .inl ⟨_, by decide, h⟩
    · exact .inr (.inr ⟨_, .results _ _ s.res1, h⟩)
  | kaParams =>
    rcases kaParamsRule_cases s with ⟨-, h⟩ | ⟨-, h⟩
    · exact .inl ⟨_, by decide, h⟩
    · exact .inr (.inr ⟨_, .results _ _ _, h⟩)
  | kaClear => exact .inr (.inr ⟨_, .clearContext, rfl⟩)
  | bfKeysched =>
    rcases bfKeyschedRule_cases s with h | ⟨hmin, hmax, h⟩
    · exact .inl ⟨_, by decide, h⟩
    · exact .inr (.inr ⟨_, .schedule hmin hmax rfl, h⟩)
  | bfEncrypt =>
    rcases bfCryptRule_cases encBlock s with ⟨e, he, h⟩ | ⟨-, -, hn, h⟩
    · exact .inl ⟨e, he, h⟩
    · exact .inr (.inr ⟨_, .blocks (.inl rfl) _ (by omega), h⟩)
  | bfDecrypt =>
    rcases bfCryptRule_cases decBlock s with ⟨e, he, h⟩ | ⟨-, -, hn, h⟩
    · exact .inl ⟨e, he, h⟩
    · exact .inr (.inr ⟨_, .blocks (.inr rfl) _ (by omega), h⟩)
  | bfClear => exact .inr (.inr ⟨_, .clearSchedule, rfl⟩)

/-- How a turn of the engine leaves the unit: completed with a code other than `OK` and nothing
written, still drawing, or completed with `OK` and the command's writes. -/
theorem finish_ruleOf_cases (i : Instr) (s : State) :
    (∃ e, e ≠ .ok ∧ s.finish (ruleOf i s) = s.complete e) ∨
    s.finish (ruleOf i s) = { s with samplingTurns := s.samplingTurns + 1 } ∨
    ∃ u, CommandWrites s i u ∧ s.finish (ruleOf i s) = u.complete .ok := by
  rcases ruleOf_cases i s with ⟨e, he, h⟩ | h | ⟨u, hu, h⟩ <;> rw [h]
  · exact .inl ⟨e, he, rfl⟩
  · exact .inr (.inl rfl)
  · exact .inr (.inr ⟨u, hu, rfl⟩)

/-! ### The parts of the invariant -/

/-- The clauses of the invariant on the pending command. -/
def State.PendingOk (s : State) : Prop :=
  (∀ w, s.pending = some w → s.done = false ∧ s.errcode = .ok ∧ s.lastop = opcField w) ∧
  (s.pending = none → s.samplingTurns = 0)

/-- The clauses of the invariant on the key-agreement context (R121). -/
def State.KaOk (s : State) : Prop :=
  (s.kaState = .ready → s.ContextOk) ∧ (s.kaState = .empty → s.contextZero)

/-- The clauses of the invariant on the key schedule (R122). -/
def State.BfOk (s : State) : Prop :=
  (s.bfKeyed = true → ∃ (key : Vector Byte 56) (n : Nat),
    Config.keyMin ≤ n ∧ n ≤ Config.keyMax ∧ keySchedule key n = (s.bfP, s.bfS)) ∧
  (s.bfKeyed = false → s.scheduleZero)

theorem State.inv_iff {s : State} : s.Inv ↔
    s.buf.wf = true ∧ s.PendingOk ∧ s.KaOk ∧ s.BfOk ∧ s.resLen.toNat ≤ 8 :=
  ⟨fun h => ⟨h.bufWf, ⟨h.pendingFields, h.idle⟩, ⟨h.context, h.noContext⟩,
    ⟨h.schedule, h.noSchedule⟩, h.resLen⟩,
   fun ⟨hb, hp, hk, hs, hr⟩ => ⟨hb, hp.1, hp.2, hk.1, hk.2, hs.1, hs.2, hr⟩⟩

/-- The fields that `State.KaOk` speaks of. -/
def State.kaFields (s : State) : KaState × DWord × DWord × DWord × DWord × BitVec 7 :=
  (s.kaState, s.kaP, s.kaG, s.kaX, s.kaA, s.kaWp)

/-- The fields that `State.BfOk` speaks of. -/
def State.bfFields (s : State) : PArray × SBoxes × Bool := (s.bfP, s.bfS, s.bfKeyed)

theorem State.KaOk.congr {s t : State} (hs : s.KaOk) (h : t.kaFields = s.kaFields) : t.KaOk := by
  simp only [State.kaFields, Prod.mk.injEq] at h
  obtain ⟨hk, hp, hg, hx, ha, hw⟩ := h
  refine ⟨fun hr => ?_, fun he => ?_⟩
  · obtain ⟨h1, h2, h3, h4, h5, h6, h7, h8, h9⟩ := hs.1 (hk ▸ hr)
    constructor <;> simpa only [hp, hg, hx, ha, hw]
  · simpa only [State.contextZero, hp, hg, hx, ha, hw] using hs.2 (hk ▸ he)

theorem State.BfOk.congr {s t : State} (hs : s.BfOk) (h : t.bfFields = s.bfFields) : t.BfOk := by
  simp only [State.bfFields, Prod.mk.injEq] at h
  obtain ⟨hp, hb, hk⟩ := h
  simpa only [State.BfOk, State.scheduleZero, hp, hb, hk] using hs

/-- A completion leaves no command pending and no draw under way (R600). -/
theorem State.pendingOk_complete (s : State) (c : ErrorCode) : (s.complete c).PendingOk :=
  ⟨fun _ h => by simp at h, fun _ => rfl⟩

/-- A context installed with good parameters satisfies R121. -/
theorem State.kaOk_installContext (s : State) {p g x : Nat} {wp : BitVec 7} (r : Config.RngState)
    (h : GoodParams p g x wp.toNat) : (s.installContext p g x wp r).KaOk := by
  have hp : p < 2 ^ 64 := h.lt_width.trans_le (Nat.pow_le_pow_right (by omega) h.width_le)
  have hA : g ^ x % p < p := Nat.mod_lt _ (by have := h.three_le; omega)
  have toNat_ofNat {n : Nat} (hn : n < 2 ^ 64) : (BitVec.ofNat 64 n).toNat = n := by
    rw [BitVec.toNat_ofNat, Nat.mod_eq_of_lt hn]
  have eP : (BitVec.ofNat 64 p).toNat = p := toNat_ofNat hp
  have eG : (BitVec.ofNat 64 g).toNat = g := toNat_ofNat (h.g_lt.trans hp)
  have eX : (BitVec.ofNat 64 x).toNat = x := toNat_ofNat h.x_lt
  have eA : (BitVec.ofNat 64 (modExp g x p)).toNat = g ^ x % p := by
    rw [modExp_eq_pow_mod g p h.x_lt, toNat_ofNat (hA.trans hp)]
  obtain ⟨h1, h2, h3, h4, h5, h6, h7, h8, -⟩ := h
  refine ⟨fun _ => ?_, fun he => by simp at he⟩
  constructor <;>
    simp only [State.installContext_kaP, State.installContext_kaG, State.installContext_kaX,
      State.installContext_kaA, State.installContext_kaWp, eP, eG, eX, eA] <;>
    assumption

/-- The schedule of a key of an accepted length satisfies R122. -/
theorem State.bfOk_installSchedule (s : State) {key : Vector Byte 56} {n : Nat}
    {k : PArray × SBoxes} (hmin : Config.keyMin ≤ n) (hmax : n ≤ Config.keyMax)
    (hk : keySchedule key n = k) : (s.installSchedule k).BfOk :=
  ⟨fun _ => ⟨key, n, hmin, hmax, hk.trans (s.installSchedule_eq k).symm⟩, nofun⟩

theorem State.kaOk_clearContext (s : State) : s.clearContext.KaOk :=
  ⟨nofun, fun _ => ⟨rfl, rfl, rfl, rfl, rfl⟩⟩

theorem State.bfOk_clearSchedule (s : State) : s.clearSchedule.BfOk :=
  ⟨nofun, fun _ => ⟨rfl, rfl⟩⟩

/-- The length of the secret of a `Ready` context fits `RES0` (R471). -/
theorem State.KaOk.secretLen_le {s : State} (h : s.KaOk) (hr : s.kaState = .ready) :
    (BitVec.ofNat 8 ((s.kaWp.toNat + 7) / 8)).toNat ≤ 8 := by
  have hw := (h.1 hr).width_le
  rw [BitVec.toNat_ofNat]
  omega

/-! ### Every event keeps the invariant -/

theorem State.inv_resetUnit (s : State) : s.resetUnit.Inv := by
  refine State.inv_iff.2 ⟨rfl, ⟨?_, fun _ => rfl⟩, ⟨?_, fun _ => ⟨rfl, rfl, rfl, rfl, rfl⟩⟩,
    ⟨?_, fun _ => ⟨rfl, rfl⟩⟩, Nat.zero_le _⟩
  all_goals intros; contradiction

/-- The next inputs, the bus answer and the count of free values are no part of the invariant. -/
theorem State.Inv.bus {s : State} (h : s.Inv) (l : List Input) (r : Response) (n : Nat) :
    State.Inv { s with inputs := l, response := r, freeReads := n } := by
  obtain ⟨hb, hp, hk, hs, hr⟩ := State.inv_iff.1 h
  exact State.inv_iff.2 ⟨hb, hp, hk.congr rfl, hs.congr rfl, hr⟩

theorem State.Inv.hostRead {s : State} (h : s.Inv) (off : Nat) (w : Width) :
    (s.hostRead off w).Inv := by
  rw [State.hostRead_frame]
  exact h.bus _ _ _

/-- A register write keeps the invariant. One to `CMD` makes the status fields those of the accepted
word (R305); no other sets `DONE`, so the fields of a pending command stay (R106). -/
theorem State.Inv.writeReg {s : State} (h : s.Inv) (v : Word) (r : Reg) : (s.writeReg v r).Inv := by
  obtain ⟨hb, hp, hk, hs, hr⟩ := State.inv_iff.1 h
  obtain ⟨-, -, -, eLen, e1, e2, e3, e4, e5, e6, e7, e8, e9, eBuf, -⟩ := s.writeReg_frame v r
  refine State.inv_iff.2 ⟨eBuf ▸ hb, ?_, hk.congr ?_, hs.congr ?_, eLen ▸ hr⟩
  · by_cases hc : r = .cmd
    · subst hc
      refine ⟨fun w hw => ?_, fun hn => ?_⟩
      · cases hw
        exact ⟨rfl, rfl, rfl⟩
      · cases hn
    · obtain ⟨eP, eE, eL, eT, hd⟩ := s.writeReg_pending v r hc
      rw [State.PendingOk, eP, eE, eL, eT]
      refine ⟨fun w hw => ?_, hp.2⟩
      obtain ⟨hd0, he, hl⟩ := hp.1 w hw
      exact ⟨Bool.eq_false_iff.2 fun h1 => Bool.eq_false_iff.1 hd0 (hd h1), he, hl⟩
  · simp only [State.kaFields, e1, e2, e3, e4, e5, e6]
  · simp only [State.bfFields, e7, e8, e9]

theorem State.Inv.hostWrite {s : State} (h : s.Inv) {off : Nat} (hoff : off < Config.windowBytes)
    (w : Width) (v : Word) : (s.hostWrite off w v).Inv := by
  rcases s.hostWrite_cases off w v with he | he | ⟨-, -, -, he⟩ | ⟨hg, hle, -, he⟩ <;> rw [he]
  · exact h.bus _ _ _
  · obtain ⟨hb, hp, hk, hs, hr⟩ := State.inv_iff.1 h
    exact State.inv_iff.2 ⟨hb, hp, hk.congr rfl, hs.congr rfl, hr⟩
  · exact (h.writeReg v (regAt off)).bus _ _ _
  · obtain ⟨hb, hp, hk, hs, hr⟩ := State.inv_iff.1 h
    exact State.inv_iff.2 ⟨Memory.wf_writeLE _ _ _ _ (goodAccess_buf hg hle hoff) hb, hp,
      hk.congr rfl, hs.congr rfl, hr⟩

theorem CommandWrites.bufWf {s u : State} {i : Instr} (h : CommandWrites s i u)
    (hb : s.buf.wf = true) : u.buf.wf = true := by
  cases h with
  | blocks hi f hn => exact Memory.wf_mapBlocks _ _ _ _ _ (by omega) hb
  | _ => exact hb

theorem CommandWrites.kaOk {s u : State} {i : Instr} (h : CommandWrites s i u) (hk : s.KaOk) :
    u.KaOk := by
  cases h with
  | context hi r hp => exact s.kaOk_installContext r hp
  | clearContext => exact s.kaOk_clearContext
  | _ => exact hk.congr rfl

theorem CommandWrites.bfOk {s u : State} {i : Instr} (h : CommandWrites s i u) (hs : s.BfOk) :
    u.BfOk := by
  cases h with
  | schedule hmin hmax hkey => exact s.bfOk_installSchedule hmin hmax hkey
  | clearSchedule => exact s.bfOk_clearSchedule
  | _ => exact hs.congr rfl

theorem CommandWrites.resLen_le {s u : State} {i : Instr} (h : CommandWrites s i u) (hk : s.KaOk)
    (hr : s.resLen.toNat ≤ 8) : u.resLen.toNat ≤ 8 := by
  cases h with
  | secret r0 hready => exact hk.secretLen_le hready
  | _ => exact hr

/-- A completion keeps the invariant: it touches only the clauses on the pending command (R600). -/
theorem State.Inv.complete {s : State} (h : s.Inv) (c : ErrorCode) : (s.complete c).Inv := by
  obtain ⟨hb, -, hk, hs, hr⟩ := State.inv_iff.1 h
  exact State.inv_iff.2 ⟨hb, s.pendingOk_complete c, hk.congr rfl, hs.congr rfl, hr⟩

/-- A completion after a command's writes keeps the invariant. -/
theorem State.Inv.commandWrites {s u : State} {i : Instr} (h : s.Inv) (hu : CommandWrites s i u)
    (c : ErrorCode) : (u.complete c).Inv := by
  obtain ⟨hb, -, hk, hs, hr⟩ := State.inv_iff.1 h
  exact State.inv_iff.2 ⟨hu.bufWf hb, u.pendingOk_complete c, (hu.kaOk hk).congr rfl,
    (hu.bfOk hs).congr rfl, hu.resLen_le hk hr⟩

theorem State.Inv.engineTurn {s t : State} (h : s.Inv) (ht : engineTurn s = .next t) : t.Inv := by
  rcases engineTurn_cases ht with ⟨-, rfl⟩ | ⟨i, hi, rfl⟩ | ⟨w, -, rfl⟩
  · exact h
  · rcases finish_ruleOf_cases i s with ⟨e, -, he⟩ | he | ⟨u, hu, he⟩ <;> rw [he]
    · exact h.complete e
    · obtain ⟨hb, hp, hk, hs, hr⟩ := State.inv_iff.1 h
      exact State.inv_iff.2 ⟨hb, ⟨hp.1, fun hn => by simp [hi] at hn⟩, hk.congr rfl,
        hs.congr rfl, hr⟩
    · exact h.commandWrites hu .ok
  · exact h.complete _

/-- Settles O60, one lemma per event: a reset, a read, a write, a turn of the engine. -/
theorem everyStepKeepsTheInvariant : Obligations.EveryStepKeepsTheInvariant := by
  intro s t hs hstep
  rcases step_cases hstep with ⟨rest, -, rfl⟩ | ⟨rest, off, w, -, rfl⟩ |
    ⟨rest, off, w, v, -, hin, rfl⟩ | ⟨rest, -, ht⟩
  · exact State.inv_resetUnit _
  · exact (hs.bus rest _ _).hostRead _ _
  · have hoff : off.toNat < Config.windowBytes := by
      simp only [inWindow, Bool.and_eq_true, decide_eq_true_eq] at hin
      omega
    exact (hs.bus rest _ _).hostWrite hoff w v
  · exact (hs.bus rest _ _).engineTurn ht

end Sys2Proof.Machine

namespace Sys2Proof.Machine

/-! ### What a command leaves alone -/

/-- Only `KA_GENERATE` and `KA_ADOPT` draw (R457). -/
theorem CommandWrites.rng_eq {s u : State} {i : Instr} (h : CommandWrites s i u)
    (hi : ¬(i = .kaGenerate ∨ i = .kaAdopt)) : u.rng = s.rng := by
  cases h with
  | context hc r hp => exact absurd hc hi
  | _ => rfl

/-- Only the two cipher commands write `BUF` (R214). -/
theorem CommandWrites.buf_eq {s u : State} {i : Instr} (h : CommandWrites s i u)
    (hi : ¬(i = .bfEncrypt ∨ i = .bfDecrypt)) : u.buf = s.buf := by
  cases h with
  | blocks hc f hn => exact absurd hc hi
  | _ => rfl

/-- Only `BF_KEYSCHED` and `BF_CLEAR` write the key schedule (R500). -/
theorem CommandWrites.bfFields_eq {s u : State} {i : Instr} (h : CommandWrites s i u)
    (hk : i ≠ .bfKeysched) (hc : i ≠ .bfClear) : u.bfFields = s.bfFields := by
  cases h with
  | schedule => exact absurd rfl hk
  | clearSchedule => exact absurd rfl hc
  | _ => rfl

/-- The registers that hold a command's inputs, and those of the host side (R104, R603). -/
structure State.SameInputs (s t : State) : Prop where
  op0 : t.op0 = s.op0
  op1 : t.op1 = s.op1
  op2 : t.op2 = s.op2
  cfgWp : t.cfgWp = s.cfgWp
  cfgWg : t.cfgWg = s.cfgWg
  cfgXmin : t.cfgXmin = s.cfgXmin
  cfgXmax : t.cfgXmax = s.cfgXmax
  bfKeylen : t.bfKeylen = s.bfKeylen
  bfLen : t.bfLen = s.bfLen
  key : t.key = s.key
  ie : t.ie = s.ie
  ovr : t.ovr = s.ovr
  lastop : t.lastop = s.lastop
  seedLo : t.seedLo = s.seedLo

theorem CommandWrites.sameInputs {s u : State} {i : Instr} (h : CommandWrites s i u) :
    s.SameInputs u := by
  cases h <;> constructor <;> rfl

/-- What every command leaves alone, whichever way its turn ends. -/
theorem exec_frame {i : Instr} {s t : State} (h : exec i s = .next t) :
    s.SameInputs t ∧ (¬(i = .bfEncrypt ∨ i = .bfDecrypt) → t.buf = s.buf) ∧
    (i ≠ .bfKeysched → i ≠ .bfClear → t.bfFields = s.bfFields) := by
  rw [exec_eq] at h
  injection h with h
  subst h
  rcases finish_ruleOf_cases i s with ⟨e, -, he⟩ | he | ⟨u, hu, he⟩ <;> rw [he]
  · exact ⟨by constructor <;> rfl, fun _ => rfl, fun _ _ => rfl⟩
  · exact ⟨by constructor <;> rfl, fun _ => rfl, fun _ _ => rfl⟩
  · obtain ⟨⟩ := hu.sameInputs
    exact ⟨by constructor <;> assumption, hu.buf_eq, hu.bfFields_eq⟩

/-- Settles O39, from the frame that all commands share. -/
theorem commandsLeaveTheirInputsAlone : Obligations.CommandsLeaveTheirInputsAlone := by
  intro i s t h
  obtain ⟨⟨h1, h2, h3, h4, h5, h6, h7, h8, h9, h10, h11, h12, h13, h14⟩, hbuf, hbf⟩ := exec_frame h
  refine ⟨h1, h2, h3, h4, h5, h6, h7, h8, h9, h10, h11, h12, h13, h14,
    fun he hd => hbuf (not_or.2 ⟨he, hd⟩), fun hk hc => ?_⟩
  simpa only [State.bfFields, Prod.mk.injEq] using hbf hk hc

/-! ### The entropy state -/

theorem State.writeReg_rng (s : State) (v : Word) {r : Reg} (h : r ≠ .rngSeedHi) :
    (s.writeReg v r).rng = s.rng := by
  cases r with
  | rngSeedHi => exact absurd rfl h
  | _ => rfl

/-- `RNG_SEED_HI` stands at one offset of the map. -/
theorem regAt_eq_rngSeedHi {off : Nat} (h : regAt off = .rngSeedHi) : off = 0x084 := by
  unfold regAt at h
  split at h
  case h_27 => rfl
  case h_30 => split at h <;> cases h
  all_goals cases h

/-- A write that changes `RNG_STATE` is a 32-bit write of `RNG_SEED_HI` with no command pending
(R114, R710). -/
theorem State.hostWrite_rng_ne {s : State} {off : Nat} {w : Width} {v : Word}
    (h : (s.hostWrite off w v).rng ≠ s.rng) : s.pending = none ∧ off = 0x084 ∧ w = .w32 ∧
      (s.hostWrite off w v).rng = Config.rngInit (v ++ s.seedLo) := by
  rcases s.hostWrite_cases off w v with he | he | ⟨-, hw, hb, he⟩ | ⟨-, -, -, he⟩ <;>
    rw [he] at h ⊢
  · exact absurd rfl h
  · exact absurd rfl h
  · have hr : regAt off = .rngSeedHi := by
      by_contra hr
      exact h (s.writeReg_rng v hr)
    rw [hr] at hb ⊢
    have hp : s.pending = none := by simpa [State.busy, Reg.alwaysWritable] using hb
    exact ⟨hp, regAt_eq_rngSeedHi hr, hw, rfl⟩
  · exact absurd rfl h

/-- A turn of the engine that changes `RNG_STATE` completes a drawing command with `OK` (R457). -/
theorem engineTurn_rng_ne {s t : State} (h : engineTurn s = .next t) (hne : t.rng ≠ s.rng) :
    t.pending = none ∧ t.errcode = .ok ∧
    (s.pending = some (encode .kaGenerate) ∨ s.pending = some (encode .kaAdopt)) := by
  rcases engineTurn_cases h with ⟨-, rfl⟩ | ⟨i, hi, rfl⟩ | ⟨w, -, rfl⟩
  · exact absurd rfl hne
  · rcases finish_ruleOf_cases i s with ⟨e, -, he⟩ | he | ⟨u, hu, he⟩ <;> rw [he] at hne ⊢
    · exact absurd rfl hne
    · exact absurd rfl hne
    · have hd : i = .kaGenerate ∨ i = .kaAdopt := by_contra fun hd => hne (hu.rng_eq hd)
      rcases hd with rfl | rfl
      · exact ⟨rfl, rfl, .inl hi⟩
      · exact ⟨rfl, rfl, .inr hi⟩
  · exact absurd rfl hne

/-- Settles O30, one lemma per event that can change `RNG_STATE`. -/
theorem entropyChangesOnlyByDrawsAndSeeding :
    Obligations.EntropyChangesOnlyByDrawsAndSeeding := by
  intro s t hstep hne
  rcases step_cases hstep with ⟨rest, hi, -⟩ | ⟨rest, off, w, -, rfl⟩ |
    ⟨rest, off, w, v, hi, hin, rfl⟩ | ⟨rest, hi, ht⟩
  · exact .inl ⟨rest, hi⟩
  · rw [State.hostRead_frame] at hne
    exact absurd rfl hne
  · obtain ⟨hp, hoff, rfl, hr⟩ := State.hostWrite_rng_ne hne
    have hoff' : off = 0x084 := by
      simp only [inWindow, Bool.and_eq_true, decide_eq_true_eq] at hin
      omega
    exact .inr (.inr ⟨hp, v, rest, hoff' ▸ hi, hr⟩)
  · have hi' : s.inputs = [] ∨ ∃ rest : List Input, s.inputs = .engine :: rest :=
      hi.imp And.left fun h => ⟨rest, h⟩
    exact .inr (.inl ⟨hi', engineTurn_rng_ne (s := { s with inputs := rest }) ht hne⟩)

/-! ### A step performs the pending command -/

theorem engineTurn_of_decode {s : State} {w : Word} {i : Instr} (hp : s.pending = some w)
    (hd : decode w = .ok i) : engineTurn s = exec i s := by
  simp only [engineTurn, hp, hd]

theorem step_of_inputs_nil {s : State} (h : s.inputs = []) : step s = engineTurn s := by
  simp only [step, nextEvent, h]

theorem step_of_inputs_engine {s : State} {rest : List Input} (h : s.inputs = .engine :: rest) :
    step s = engineTurn { s with inputs := rest } := by
  simp only [step, nextEvent, h]

/-- A row of the table as wide as a word stands for that word. -/
theorem tableWord_toNat (w : Word) : tableWord 32 w.toNat = w :=
  BitVec.eq_of_toNat_eq (by simp [tableWord, w.isLt])

/-- Settles O4, for each form that a turn of the engine takes. -/
theorem stepRunsPendingCommand : Obligations.StepRunsPendingCommand := by
  refine ⟨fun s w i hp hd hi => ?_, fun s w i rest hp hd hi => ?_, fun s hp hi => ?_, fun s i => ?_⟩
  · rw [step_of_inputs_nil hi, engineTurn_of_decode hp hd]
  · exact (step_of_inputs_engine hi).trans (engineTurn_of_decode hp hd)
  · rw [step_of_inputs_nil hi, engineTurn, hp]
  · have hp : (s.withFetchWord 32 (encode i).toNat).pending = some (encode i) :=
      congrArg some (tableWord_toNat (encode i))
    rw [step_of_inputs_nil rfl, engineTurn_of_decode hp (decode_encode i)]

end Sys2Proof.Machine

namespace Sys2Proof.Machine

/-! ### The register file as the host reads and writes it -/

/-- What a good write to the register at `off` does while idle (R209). -/
theorem hostAccess_write_of_regAt {s : State} {off : Nat} {r : Reg} (v : Word)
    (hr : regAt off = r) (hb : s.busy = false) (h : off < 0x400 := by decide)
    (h4 : off % 4 = 0 := by decide) :
    hostAccess s (.write (off : Int) .w32 v) =
      .next { s.writeReg v r with response := .written } :=
  hr ▸ hostAccess_writeReg s v h h4 (.inl hb)

/-- What a good read of the register at `off` answers (R208). -/
theorem hostAccess_read_of_regAt (s : State) {off : Nat} {r : Reg} (hr : regAt off = r)
    (h : off < 0x400 := by decide) (h4 : off % 4 = 0 := by decide) :
    hostAccess s (.read (off : Int) .w32) =
      .next { s with response := .data .w32 (s.readReg r) } :=
  hr ▸ hostAccess_readReg s h h4

/-- How many bits of a RW register are defined, the lowest (R104, R110 to R112, R115, R116). -/
def Reg.rwBits : Reg → Option Nat
  | .ctrl => some 1
  | .op0 _ | .op1 _ | .op2 _ | .cfgXmin _ | .cfgXmax _ | .bfLen => some 32
  | .cfgWp | .cfgWg => some 7
  | .bfKeylen => some 8
  | _ => none

/-- A value zero-extended from its low `n` bits is the value modulo `2 ^ n`. -/
theorem setWidth_setWidth_eq_mod (v : Word) (n : Nat) :
    (v.setWidth n).setWidth 32 = BitVec.ofNat 32 (v.toNat % 2 ^ n) :=
  BitVec.eq_of_toNat_eq (by simp)

theorem readHalf_writeHalfOf (x : DWord) (v : Word) (h : Half) :
    readHalf (writeHalfOf x v h) h = v := by
  cases h with
  | lo => exact loHalf_setLo x v
  | hi => exact hiHalf_setHi x v

/-- A RW register reads back the defined bits of what is written (R209). -/
theorem State.readReg_writeReg (s : State) (v : Word) {r : Reg} {n : Nat}
    (h : r.rwBits = some n) : (s.writeReg v r).readReg r = BitVec.ofNat 32 (v.toNat % 2 ^ n) := by
  have full : BitVec.ofNat 32 (v.toNat % 2 ^ 32) = v := by
    rw [Nat.mod_eq_of_lt v.isLt, BitVec.ofNat_toNat, BitVec.setWidth_eq]
  cases r <;> cases h
  case ctrl =>
    have h := setWidth_setWidth_eq_mod v 1
    rw [BitVec.setWidth_one] at h
    exact h
  case op0 h => exact (readHalf_writeHalfOf _ v h).trans full.symm
  case op1 h => exact (readHalf_writeHalfOf _ v h).trans full.symm
  case op2 h => exact (readHalf_writeHalfOf _ v h).trans full.symm
  case cfgXmin h => exact (readHalf_writeHalfOf _ v h).trans full.symm
  case cfgXmax h => exact (readHalf_writeHalfOf _ v h).trans full.symm
  case cfgWp => exact setWidth_setWidth_eq_mod v 7
  case cfgWg => exact setWidth_setWidth_eq_mod v 7
  case bfKeylen => exact setWidth_setWidth_eq_mod v 8
  case bfLen => exact full.symm

/-- What a register holds does not depend on the bus answer. -/
theorem State.readReg_response (s : State) (a : Response) (r : Reg) :
    ({ s with response := a } : State).readReg r = s.readReg r := by
  cases r <;> rfl

/-- Settles O48, by the law of a read after a write of the same RW register. -/
theorem registersReadBackWhatWasWritten : Obligations.RegistersReadBackWhatWasWritten := by
  refine ⟨fun s off mask v hb hmem => ?_, fun s v hb => ?_⟩
  · have hrw : ∀ p ∈ [((0x008, 1) : Nat × Nat), (0x020, 32), (0x024, 32), (0x028, 32),
        (0x02C, 32), (0x030, 32), (0x034, 32), (0x060, 7), (0x064, 7), (0x068, 32), (0x06C, 32),
        (0x070, 32), (0x074, 32), (0x090, 8), (0x094, 32)],
        p.1 < 0x400 ∧ p.1 % 4 = 0 ∧ (regAt p.1).rwBits = some p.2 := by decide
    obtain ⟨hlt, h4, hbits⟩ := hrw _ hmem
    refine ⟨_, hostAccess_write_of_regAt v rfl hb hlt h4, ?_⟩
    rw [hostAccess_read_of_regAt _ rfl hlt h4, State.readReg_response,
      s.readReg_writeReg v hbits]
  · rw [← BitVec.setWidth_eq_extractLsb' (by decide), ← BitVec.setWidth_eq_extractLsb' (by decide)]
    exact ⟨hostAccess_write_of_regAt (off := 0x060) v rfl hb,
      hostAccess_write_of_regAt (off := 0x064) v rfl hb,
      hostAccess_write_of_regAt (off := 0x068) v rfl hb,
      hostAccess_write_of_regAt (off := 0x06C) v rfl hb,
      hostAccess_write_of_regAt (off := 0x070) v rfl hb,
      hostAccess_write_of_regAt (off := 0x074) v rfl hb,
      hostAccess_write_of_regAt (off := 0x090) v rfl hb,
      hostAccess_write_of_regAt (off := 0x094) v rfl hb⟩

/-- Settles O49, from the law of an idle register write. -/
theorem operandHalvesAreWrittenAlone : Obligations.OperandHalvesAreWrittenAlone := fun _ v hb =>
  ⟨hostAccess_write_of_regAt (off := 0x020) v rfl hb,
    hostAccess_write_of_regAt (off := 0x024) v rfl hb,
    hostAccess_write_of_regAt (off := 0x028) v rfl hb,
    hostAccess_write_of_regAt (off := 0x02C) v rfl hb,
    hostAccess_write_of_regAt (off := 0x030) v rfl hb,
    hostAccess_write_of_regAt (off := 0x034) v rfl hb⟩

/-- Settles O51, from the laws of an idle register write and of a register read. -/
theorem seedHiWriteSeedsTheEntropySource : Obligations.SeedHiWriteSeedsTheEntropySource :=
  ⟨fun _ v hb => ⟨hostAccess_write_of_regAt (off := 0x080) v rfl hb,
      hostAccess_write_of_regAt (off := 0x084) v rfl hb⟩,
    fun s => ⟨hostAccess_read_of_regAt s (off := 0x080) rfl,
      hostAccess_read_of_regAt s (off := 0x084) rfl⟩,
    rfl⟩

/-! ### Read-only, write-only and reserved offsets (R124) -/

/-- A RO register or a reserved offset: writes are ignored (R209). -/
def Reg.ignoresWrites : Reg → Bool
  | .id | .version | .res0 _ | .res1 _ | .res2 _ | .resLen | .cfgMrRounds | .reserved => true
  | _ => false

/-- A WO register or a reserved offset: reads give 0 (R208). -/
def Reg.readsZero : Reg → Bool
  | .cmd | .rngSeedLo | .rngSeedHi | .bfKey _ | .reserved => true
  | _ => false

theorem State.writeReg_of_ignoresWrites (s : State) (v : Word) {r : Reg}
    (h : r.ignoresWrites = true) : s.writeReg v r = s := by
  cases r <;> cases h <;> rfl

theorem State.readReg_of_readsZero (s : State) {r : Reg} (h : r.readsZero = true) :
    s.readReg r = 0 := by
  cases r <;> cases h <;> rfl

/-- The reserved offsets of the map (R124). -/
def reservedOffset (off : Nat) : Prop :=
  (0x014 ≤ off ∧ off ≤ 0x01C) ∨ (0x038 ≤ off ∧ off ≤ 0x03C) ∨ off = 0x05C ∨ off = 0x07C ∨
    (0x088 ≤ off ∧ off ≤ 0x08C) ∨ (0x098 ≤ off ∧ off ≤ 0x0FC) ∨ (0x138 ≤ off ∧ off ≤ 0x3FC)

theorem regAt_of_reservedOffset {off : Nat} (h : reservedOffset off) (h4 : off % 4 = 0) :
    regAt off = .reserved := by
  unfold reservedOffset at h
  have hr := regAt_reserved ⟨off / 4, by omega⟩ (by simp only; omega)
  rwa [show 4 * (off / 4) = off by omega] at hr

theorem regAt_readOnly {off : Nat} (h4 : off % 4 = 0)
    (h : off = 0x000 ∨ off = 0x004 ∨ (0x040 ≤ off ∧ off ≤ 0x058) ∨ off = 0x078) :
    (regAt off).ignoresWrites = true := by
  have hall : ∀ o ∈ [0x000, 0x004, 0x040, 0x044, 0x048, 0x04C, 0x050, 0x054, 0x058, 0x078],
      (regAt o).ignoresWrites = true := by decide
  refine hall off ?_
  simp only [List.mem_cons, List.not_mem_nil, or_false]
  omega

theorem regAt_writeOnly {off : Nat} (h4 : off % 4 = 0)
    (h : off = 0x010 ∨ off = 0x080 ∨ off = 0x084 ∨ (0x100 ≤ off ∧ off ≤ 0x134)) :
    (regAt off).readsZero = true := by
  rcases h with rfl | rfl | rfl | h
  · rfl
  · rfl
  · rfl
  · have hk := regAt_bfKey ⟨(off - 0x100) / 4, by omega⟩
    rw [show 0x100 + 4 * ((off - 0x100) / 4) = off by omega] at hk
    rw [hk]
    rfl

/-- Settles O50: the map's reserved, RO and WO offsets, then the value of each RO register. -/
theorem readOnlyAndReservedOffsets : Obligations.ReadOnlyAndReservedOffsets := by
  refine ⟨fun s off v h4 => ?_, fun s => ?_⟩
  · intro reserved readOnly writeOnly
    refine ⟨fun h hb => ?_, fun h => ?_⟩
    · have hi : (regAt off).ignoresWrites = true := by
        rcases h with h | h
        · rw [regAt_of_reservedOffset h h4]
          rfl
        · exact regAt_readOnly h4 h
      rw [hostAccess_write_of_regAt v rfl hb (by omega) h4, s.writeReg_of_ignoresWrites v hi]
    · have hz : (regAt off).readsZero = true := by
        rcases h with h | h
        · rw [regAt_of_reservedOffset h h4]
          rfl
        · exact regAt_writeOnly h4 h
      rw [hostAccess_read_of_regAt s rfl (by omega) h4, s.readReg_of_readsZero hz]
  · have hlen : (s.resLen.setWidth 32 : Word) = 0#24 ++ s.resLen :=
      BitVec.setWidth_eq_append (by decide)
    rw [← hlen]
    exact ⟨hostAccess_read_of_regAt s (off := 0x000) rfl,
      hostAccess_read_of_regAt s (off := 0x004) rfl,
      hostAccess_read_of_regAt s (off := 0x040) rfl,
      hostAccess_read_of_regAt s (off := 0x044) rfl,
      hostAccess_read_of_regAt s (off := 0x048) rfl,
      hostAccess_read_of_regAt s (off := 0x04C) rfl,
      hostAccess_read_of_regAt s (off := 0x050) rfl,
      hostAccess_read_of_regAt s (off := 0x054) rfl,
      hostAccess_read_of_regAt s (off := 0x058) rfl,
      hostAccess_read_of_regAt s (off := 0x078) rfl⟩

/-! ### The key registers (R117) -/

/-- Bits `[8c+7 : 8c]` of a word are its byte `c`. -/
theorem extractLsb'_byte (v : Word) (c : Nat) :
    v.extractLsb' (8 * c) 8 = BitVec.ofNat 8 (v.toNat / 2 ^ (8 * c)) := by
  rw [BitVec.extractLsb', Nat.shiftRight_eq_div_pow]

/-- Each key byte after a write of `BF_KEYj`: the value's bytes in word `j`, else the old ones. -/
theorem getElem_setKeyWord (key : Vector Byte 56) (j : Fin 14) (v : Word) {i : Nat} (hi : i < 56) :
    (setKeyWord key j v)[i] =
      if i / 4 = j.val then BitVec.ofNat 8 (v.toNat / 2 ^ (8 * (i % 4))) else key[i] := by
  rw [← extractLsb'_byte]
  simp only [setKeyWord, Vector.getElem_set]
  by_cases hj : i / 4 = j.val
  · have hc : i % 4 = 0 ∨ i % 4 = 1 ∨ i % 4 = 2 ∨ i % 4 = 3 := by omega
    rw [if_pos hj]
    rcases hc with hc | hc | hc | hc <;> simp (disch := omega) only [if_pos, if_neg, hc]
  · simp (disch := omega) only [if_neg]

/-- Settles O52, from the law of the key bytes. -/
theorem keyRegistersTakeFourBytes : Obligations.KeyRegistersTakeFourBytes := by
  intro s j v
  have hlt : 0x100 + 4 * j.val < 0x400 := by omega
  have h4 : (0x100 + 4 * j.val) % 4 = 0 := by omega
  refine ⟨fun hb => ⟨setKeyWord s.key j v, ?_, fun i hi => getElem_setKeyWord s.key j v hi⟩, ?_⟩
  · exact hostAccess_write_of_regAt v (regAt_bfKey j) hb hlt h4
  · exact hostAccess_read_of_regAt s (regAt_bfKey j) hlt h4

/-! ### What the host reads does not show the secrets -/

/-- The state with other values in the registers that no access reads: `KA_X`, the key schedule's
words and the key bytes (R119, R122, R117). -/
def State.withSecrets (s : State) (x : DWord) (P : PArray) (S : SBoxes) (k : Vector Byte 56) :
    State :=
  { s with kaX := x, bfP := P, bfS := S, key := k }

section
variable (s : State) (x : DWord) (P : PArray) (S : SBoxes) (k : Vector Byte 56)

theorem State.readReg_withSecrets (r : Reg) :
    (s.withSecrets x P S k).readReg r = s.readReg r := by
  cases r <;> rfl

/-- The answer to a read at a window offset (R207, R208, R211). -/
theorem State.hostRead_response (off : Nat) (w : Width) : (s.hostRead off w).response =
    if goodAccess off w = false then .busError (some (s.freeValue w))
    else if off < Config.bufOffset then .data w (s.readReg (regAt off))
    else if s.cipherPending = true then .data w (s.freeValue w)
    else .data w (BitVec.ofNat 32 (s.memRead (off - Config.bufOffset) w.bytes)) := by
  unfold State.hostRead
  split
  · rfl
  · split
    · rfl
    · split <;> rfl

theorem State.hostRead_response_withSecrets (off : Nat) (w : Width) :
    ((s.withSecrets x P S k).hostRead off w).response = (s.hostRead off w).response := by
  rw [State.hostRead_response, State.hostRead_response, State.readReg_withSecrets]
  rfl

end

/-- Settles O55: the answer to a read is a function of what the secrets leave alone. -/
theorem secretsNeverReachTheBus : Obligations.SecretsNeverReachTheBus := by
  intro s t t' x P S k off w ht ht'
  rw [(hostAccess_read_next ht).2, (hostAccess_read_next ht').2]
  exact (s.hostRead_response_withSecrets x P S k off.toNat w).symm

/-! ### The fields of `STATUS` (R106, R601) -/

/-- `ERR` says that the code is other than `OK` (R106, R601). -/
theorem State.err_eq (s : State) : s.err = decide (s.errcode ≠ .ok) := by
  rw [State.err]
  cases s.errcode <;> rfl

theorem State.statusWord_bits (s : State) :
    s.statusWord.getLsbD 0 = s.busy ∧ s.statusWord.getLsbD 1 = s.done ∧
    s.statusWord.getLsbD 2 = s.err ∧ s.statusWord.getLsbD 3 = s.ovr ∧
    s.statusWord.getLsbD 4 = s.kaReady ∧ s.statusWord.getLsbD 5 = s.bfKeyed := by
  simp only [State.statusWord, BitVec.getLsbD_append]
  simp

theorem State.statusWord_fields (s : State) :
    s.statusWord.extractLsb' 6 2 = 0#2 ∧ s.statusWord.extractLsb' 8 8 = s.errcode.toByte ∧
    s.statusWord.extractLsb' 16 8 = s.lastop ∧ s.statusWord.extractLsb' 24 8 = 0#8 := by
  simp (disch := decide) only [State.statusWord, BitVec.extractLsb'_append_eq_of_le,
    BitVec.extractLsb'_append_eq_of_add_le, BitVec.extractLsb'_eq_self, Nat.reduceSub, and_self]

/-- Settles O43, from the bits and the fields of the word that `STATUS` reads as. -/
theorem statusFieldsReadBack : Obligations.StatusFieldsReadBack := by
  intro s
  obtain ⟨hbusy, hdone, herr, hovr, hready, hkeyed⟩ := s.statusWord_bits
  obtain ⟨hrsv, hcode, hlastop, htop⟩ := s.statusWord_fields
  refine ⟨rfl, hbusy, hdone, herr.trans s.err_eq, hovr, hready, hkeyed, hrsv, hcode, hlastop,
    htop, hcode.trans ?_⟩
  cases s.errcode <;> rfl

end Sys2Proof.Machine

namespace Sys2Proof.Machine

/-! ### Accesses by the window's offsets (R200, R201) -/

/-- No offset below 0, or from `0x800` on, lies in the window (R200). -/
theorem inWindow_eq_false {off : Int} (h : off < 0 ∨ 0x800 ≤ off) : inWindow off = false := by
  simp only [inWindow, Config.windowBytes, Nat.cast_ofNat, Bool.and_eq_false_iff,
    decide_eq_false_iff_not]
  omega

/-- Settles O56: neither kind of access is decoded outside the window. -/
theorem accessOutsideTheWindowFaults : Obligations.AccessOutsideTheWindowFaults := by
  intro s off w v h
  simp only [hostAccess, inWindow_eq_false h, Bool.false_eq_true, if_false, and_self]

theorem hostAccess_read_natCast (s : State) {off : Nat} (w : Width) (h : off < 0x800) :
    hostAccess s (.read (off : Int) w) = .next (s.hostRead off w) := by
  rw [hostAccess, if_pos (inWindow_natCast h), Int.toNat_natCast]

theorem hostAccess_write_natCast (s : State) {off : Nat} (w : Width) (v : Word) (h : off < 0x800) :
    hostAccess s (.write (off : Int) w v) = .next (s.hostWrite off w v) := by
  rw [hostAccess, if_pos (inWindow_natCast h), Int.toNat_natCast]

/-! ### Bad accesses (R205 to R207) -/

/-- Which accesses are bad: by width and alignment in the register space (R205), by alignment in
`BUF` (R206). -/
theorem goodAccess_eq_false_iff {off : Nat} {w : Width} :
    goodAccess off w = false ↔
      (off < 0x400 ∧ (w ≠ .w32 ∨ off % 4 ≠ 0)) ∨ (0x400 ≤ off ∧ off % w.bytes ≠ 0) := by
  unfold goodAccess
  split
  · rename_i hreg
    have hreg : off < 0x400 := hreg
    simp only [Bool.and_eq_false_iff, decide_eq_false_iff_not, ne_eq, hreg, true_and,
      Nat.not_le.2 hreg, false_and, or_false]
  · rename_i hbuf
    have hbuf : ¬off < 0x400 := hbuf
    simp only [decide_eq_false_iff_not, ne_eq, hbuf, false_and, false_or, Nat.not_lt.1 hbuf,
      true_and]

theorem State.hostRead_of_bad (s : State) {off : Nat} {w : Width} (h : goodAccess off w = false) :
    s.hostRead off w =
      { s with response := .busError (some (s.freeValue w)), freeReads := s.freeReads + 1 } :=
  if_pos h

theorem State.hostWrite_of_bad (s : State) {off : Nat} {w : Width} (v : Word)
    (h : goodAccess off w = false) : s.hostWrite off w v = { s with response := .busError none } :=
  if_pos h

/-- Settles O46, from what a bad read and a bad write do. -/
theorem badAccessGetsABusError : Obligations.BadAccessGetsABusError := by
  intro s off w v hoff hbad
  have hbad : goodAccess off w = false := goodAccess_eq_false_iff.2 hbad
  rw [hostAccess_read_natCast s w hoff, hostAccess_write_natCast s w v hoff,
    s.hostRead_of_bad hbad, s.hostWrite_of_bad v hbad]
  exact ⟨⟨_, rfl⟩, rfl⟩

/-! ### Reads (R208, R211, R213) -/

/-- Settles O47, from the frame of a read and the law of a register read. -/
theorem readsHaveNoSideEffect : Obligations.ReadsHaveNoSideEffect := by
  refine ⟨fun s t off w h => ?_, fun s off hlt h4 => ?_⟩
  · obtain ⟨-, rfl⟩ := hostAccess_read_next h
    exact s.hostRead_frame off.toNat w
  · refine ⟨_, hostAccess_readReg s hlt h4, fun r => ?_⟩
    rw [hostAccess_readReg _ hlt h4, State.readReg_response]

/-- The cipher commands are the two whose words are pending (R211, R302). -/
theorem State.cipherPending_iff (s : State) : s.cipherPending = true ↔
    s.pending = some (encode .bfEncrypt) ∨ s.pending = some (encode .bfDecrypt) := by
  unfold State.cipherPending
  split
  · rename_i hp
    simp [hp]
  · rename_i w hp
    simp only [hp, Bool.or_eq_true, decide_eq_true_eq, decode_eq_ok_iff, Option.some.injEq]

theorem State.cipherPending_of_idle {s : State} (h : s.busy = false) : s.cipherPending = false := by
  have hp : s.pending = none := by simpa [State.busy] using h
  simp only [State.cipherPending, hp]

/-- What a good read of `BUF` answers while a cipher command is pending (R211). -/
theorem hostAccess_readBuf_of_cipherPending (s : State) {a : Nat} {w : Width} (h : a < 0x400)
    (ha : a % w.bytes = 0) (hc : s.cipherPending = true) :
    hostAccess s (.read ((0x400 + a : Nat) : Int) w) =
      .next { s with response := .data w (s.freeValue w), freeReads := s.freeReads + 1 } := by
  have hbuf : ¬0x400 + a < Config.bufOffset := Nat.not_lt.2 (Nat.le_add_right 0x400 a)
  have hgood : ¬goodAccess (0x400 + a) w = false := by simp [goodAccess_bufOffset ha]
  rw [hostAccess_read_natCast s w (by omega), State.hostRead, if_neg hgood, if_neg hbuf, if_pos hc]

/-- Settles O54, by whether a cipher command is pending. -/
theorem bufferReadsDuringCommands : Obligations.BufferReadsDuringCommands := by
  intro s a w h ha
  refine ⟨fun ⟨henc, hdec⟩ => ?_, fun hp => ?_⟩
  · have hc : s.cipherPending = false := by
      rw [← Bool.not_eq_true, s.cipherPending_iff]
      exact not_or.2 ⟨henc, hdec⟩
    exact hostAccess_readBuf s h ha hc
  · exact ⟨_, hostAccess_readBuf_of_cipherPending s h ha (s.cipherPending_iff.2 hp)⟩

/-! ### Buffer writes (R210) -/

/-- Bytes that are the low ones of `v`, lowest first, read as `v` modulo their range (R15). -/
theorem Memory.readLE_eq_mod {m : Memory} {n a count v : Nat}
    (h : ∀ i < count, m.byte n (a + i) = BitVec.ofNat 8 (v / 2 ^ (8 * i))) :
    m.readLE n a count = v % 2 ^ (8 * count) := by
  induction count generalizing a v with
  | zero => rw [Nat.mul_zero, pow_zero, Nat.mod_one, Memory.readLE]
  | succ c ih =>
    have hlow : (m.byte n a).toNat = v % 2 ^ 8 := by
      simpa using congrArg BitVec.toNat (h 0 c.succ_pos)
    have hrest : m.readLE n (a + 1) c = v / 2 ^ 8 % 2 ^ (8 * c) := by
      refine ih fun i hi => ?_
      rw [Nat.add_assoc, Nat.add_comm 1 i, h (i + 1) (by omega), Nat.div_div_eq_div_mul, ← pow_add,
        Nat.mul_succ, Nat.add_comm 8]
    rw [Memory.readLE, hlow, hrest, Nat.mul_succ, Nat.add_comm (8 * c) 8, pow_add, Nat.mod_mul]

/-- Settles O53, from what `writeLE` does to each byte. -/
theorem bufferWritesReadBack : Obligations.BufferWritesReadBack := by
  intro s a w v hb h ha
  have hin : ∀ i < w.bytes, (s.buf.writeLE a w.bytes v.toNat).byte s.resets (a + i) =
      BitVec.ofNat 8 (v.toNat / 2 ^ (8 * i)) := by
    intro i hi
    rw [Memory.byte_writeLE, if_pos (by omega), Nat.add_sub_cancel_left]
  have hout : ∀ i, i < a ∨ a + w.bytes ≤ i →
      (s.buf.writeLE a w.bytes v.toNat).byte s.resets i = s.buf.byte s.resets i := by
    intro i hi
    rw [Memory.byte_writeLE, if_neg (by omega)]
  refine ⟨s.buf.writeLE a w.bytes v.toNat, hostAccess_writeBuf s v h ha hb, hin, hout, ?_⟩
  have hidle : (s.memWrite a w.bytes v.toNat).busy = false := hb
  have hval : (s.memWrite a w.bytes v.toNat).memRead a w.bytes = v.toNat % 2 ^ (8 * w.bytes) :=
    Memory.readLE_eq_mod hin
  rw [← hval]
  exact hostAccess_readBuf (s.memWrite a w.bytes v.toNat) h ha (State.cipherPending_of_idle hidle)

end Sys2Proof.Machine

namespace Sys2Proof.Machine

/-! ### Command words on the bus and in the opcode table (R202, R301) -/

/-- The bus order of the bytes loses nothing: joined again they are the word (R202). -/
theorem decodeBytes_wordBytes (w : Word) : decodeBytes (wordBytes w) = decode w :=
  congrArg decode (joinBytes w)

/-- Settles O3: no word but a command's own decodes to it, and its bytes join to it again. -/
theorem decodeInvertsEncode : Obligations.DecodeInvertsEncode := fun w _ =>
  ⟨decode_eq_ok_iff, decodeBytes_wordBytes w⟩

/-- A row of the table as wide as a word is read as that word decodes. -/
theorem decodeTableWord_toNat (w : Word) : decodeTableWord 32 w.toNat = (decode w).toOption := by
  rw [decodeTableWord, tableWord_toNat, decodeBytes_wordBytes]
  cases decode w <;> rfl

theorem decodeTableWord_encode (i : Instr) : decodeTableWord 32 (encode i).toNat = some i := by
  rw [decodeTableWord_toNat, decode_encode]
  rfl

theorem decodeTableWord_of_error {w : Word} {e : DecodeError} (h : decode w = .error e) :
    decodeTableWord 32 w.toNat = none := by
  rw [decodeTableWord_toNat, h]
  rfl

/-- Settles O1: six words are those of their commands, one has a reserved bit set, and one has a
reserved opcode. -/
theorem opcodeWordsDecode : Obligations.OpcodeWordsDecode :=
  ⟨decodeTableWord_encode .nop, decodeTableWord_encode .modexp, decodeTableWord_encode .kaGenerate,
    decodeTableWord_encode .kaClear, decodeTableWord_encode .bfKeysched,
    decodeTableWord_encode .bfClear,
    decodeTableWord_of_error (w := 0x100) (e := .reservedBits) (by decide),
    decodeTableWord_of_error (w := 0x03) (e := .reservedOpcode) (by decide)⟩

/-! ### Legal command words (R302) -/

/-- The thirteen `OPC` values (R301). -/
def opcodeValues : List Nat :=
  [0x00, 0x01, 0x02, 0x10, 0x11, 0x12, 0x13, 0x14, 0x15, 0x20, 0x21, 0x22, 0x23]

/-- Each command's word is one of the opcode values, with zero above it (R301). -/
theorem toNat_encode_mem (i : Instr) : (encode i).toNat ∈ opcodeValues := by
  cases i <;> decide

/-- Each opcode value is the word of a command (R301). -/
theorem exists_toNat_encode {o : Nat} (h : o ∈ opcodeValues) : ∃ i, (encode i).toNat = o := by
  have hmap : ∀ o ∈ opcodeValues, ∃ i, opcodeMap o = some i := by
    simp [opcodeValues, opcodeMap]
  exact (hmap o h).imp fun i hi => (opcodeMap_eq_some hi).symm

/-- The opcode values by the ranges they fill (R302). -/
theorem mem_opcodeValues {o : Nat} : o ∈ opcodeValues ↔
    o ≤ 0x02 ∨ (0x10 ≤ o ∧ o ≤ 0x15) ∨ (0x20 ≤ o ∧ o ≤ 0x23) := by
  simp only [opcodeValues, List.mem_cons, List.not_mem_nil, or_false]
  omega

theorem opcodeAssigned_iff {o : Nat} : opcodeAssigned o = true ↔ o ∈ opcodeValues := by
  simp only [opcodeAssigned, mem_opcodeValues, Bool.or_eq_true, Bool.and_eq_true,
    decide_eq_true_eq, or_assoc]

/-- No opcode value needs more than the eight bits of `OPC` (R300). -/
theorem lt_of_mem_opcodeValues {o : Nat} (h : o ∈ opcodeValues) : o < 2 ^ 8 := by
  rw [mem_opcodeValues] at h
  omega

/-- The words that decode are the opcode values. -/
theorem exists_decode_ok_iff_mem {w : Word} :
    (∃ i, decode w = .ok i) ↔ w.toNat ∈ opcodeValues := by
  simp only [decode_eq_ok_iff]
  constructor
  · rintro ⟨i, rfl⟩
    exact toNat_encode_mem i
  · intro h
    obtain ⟨i, hi⟩ := exists_toNat_encode h
    exact ⟨i, BitVec.eq_of_toNat_eq hi.symm⟩

/-- A number is an opcode value exactly when its `RSV` is zero and its `OPC` is one (R302). -/
theorem mem_opcodeValues_iff_fields {n : Nat} :
    n ∈ opcodeValues ↔ n / 2 ^ 8 = 0 ∧ n % 2 ^ 8 ∈ opcodeValues := by
  constructor
  · intro h
    have hlt := lt_of_mem_opcodeValues h
    exact ⟨Nat.div_eq_of_lt hlt, (Nat.mod_eq_of_lt hlt).symm ▸ h⟩
  · rintro ⟨hrsv, hopc⟩
    have hlt : n < 2 ^ 8 := by omega
    rwa [Nat.mod_eq_of_lt hlt] at hopc

/-- A word is rejected exactly when it decodes to no command: decoding is total (R302). -/
theorem exists_decode_error_iff {w : Word} :
    (∃ e, decode w = .error e) ↔ ¬∃ i, decode w = .ok i := by
  cases decode w <;> simp

/-- The check on a word's fields and the decoder accept the same words (R302). -/
theorem legalCommand_iff {w : Word} : legalCommand w = true ↔ ∃ i, decode w = .ok i := by
  have hrsv : w.toNat / 2 ^ 8 = 0 ↔ w.toNat < 2 ^ 8 := by omega
  rw [exists_decode_ok_iff_mem, mem_opcodeValues_iff_fields, hrsv, legalCommand, Bool.and_eq_true,
    reservedZero, decide_eq_true_eq, opcodeAssigned_iff]

/-- Settles O2: the words that decode have the two fields of an opcode value, and the reserved ranges
are what the opcode values leave of eight bits. -/
theorem legalWordsAreTheOpcodeMap : Obligations.LegalWordsAreTheOpcodeMap := by
  intro w
  have hok : (∃ i, decode w = .ok i) ↔
      w.toNat / 2 ^ 8 = 0 ∧ w.toNat % 2 ^ 8 ∈ opcodeValues :=
    exists_decode_ok_iff_mem.trans mem_opcodeValues_iff_fields
  refine ⟨hok, ?_, legalCommand_iff⟩
  rw [exists_decode_error_iff, hok, mem_opcodeValues]
  omega

/-! ### An illegal word, and the acceptance of a word (R305, R306) -/

theorem engineTurn_of_decode_error {s : State} {w : Word} {e : DecodeError}
    (hp : s.pending = some w) (hd : decode w = .error e) :
    engineTurn s = .next (s.complete .illegalCommand) := by
  simp only [engineTurn, hp, hd, State.finish_raise]

/-- Settles O5: the turn is a completion, which changes the status fields alone. -/
theorem illegalWordEndsIllegalCommand : Obligations.IllegalWordEndsIllegalCommand := by
  intro s w e hp hd hi
  rw [step_of_inputs_nil hi, engineTurn_of_decode_error hp hd]
  rfl

/-- What a good write does while a command is pending, but for the registers that are taken even
then (R710). -/
theorem State.hostWrite_of_busy {s : State} {off : Nat} {w : Width} (v : Word)
    (hb : s.busy = true) (hg : goodAccess off w = true)
    (hr : off < Config.bufOffset → (regAt off).alwaysWritable = false) :
    s.hostWrite off w v = { s.dropWrite with response := .written } := by
  have hdrop : s.goodWrite off w v = s.dropWrite := by
    rw [State.goodWrite, if_pos hb]
    split
    · rename_i hoff
      exact if_pos ⟨hb, hr hoff⟩
    · rfl
  rw [State.hostWrite, if_neg (Bool.not_eq_false _ ▸ hg), hdrop]

theorem State.busy_eq_true_iff {s : State} : s.busy = true ↔ ∃ w, s.pending = some w :=
  Option.isSome_iff_exists

theorem State.busy_eq_false_iff {s : State} : s.busy = false ↔ s.pending = none :=
  Option.isSome_eq_false_iff.trans Option.isNone_iff_eq_none

/-- The low byte of a word, which acceptance puts in `LASTOP` (R305). -/
theorem opcField_eq_ofNat (w : Word) : opcField w = BitVec.ofNat 8 w.toNat := by
  rw [opcField, BitVec.extractLsb', Nat.shiftRight_zero]

/-- What a write to `CMD` does while idle (R305). -/
theorem hostAccess_writeCmd_of_idle {s : State} (w : Word) (hb : s.busy = false) :
    hostAccess s (.write 0x010 .w32 w) = .next { s.accept w with response := .written } :=
  hostAccess_write_of_regAt (off := 0x010) w rfl hb

/-- What a write to `CMD` does while a command is pending (R305, R710). -/
theorem hostAccess_writeCmd_of_busy {s : State} (w : Word) (hb : s.busy = true) :
    hostAccess s (.write 0x010 .w32 w) = .next { s.dropWrite with response := .written } := by
  rw [← State.hostWrite_of_busy (off := 0x010) w hb (goodAccess_reg (by decide) rfl) fun _ => rfl]
  exact hostAccess_write_natCast s (off := 0x010) .w32 w (by decide)

/-- Settles O44, by whether a command is pending. -/
theorem commandWriteIsAcceptedOrDropped : Obligations.CommandWriteIsAcceptedOrDropped := by
  refine ⟨fun s w hp => ?_, fun s w w' hp => ?_, fun s t w hp ht => ?_⟩
  · rw [hostAccess_writeCmd_of_idle w (State.busy_eq_false_iff.2 hp), ← opcField_eq_ofNat]
    rfl
  · exact hostAccess_writeCmd_of_busy w (State.busy_eq_true_iff.2 ⟨w', hp⟩)
  · rw [hostAccess_writeCmd_of_idle w (State.busy_eq_false_iff.2 hp)] at ht
    injection ht with ht
    subst ht
    exact ⟨rfl, rfl⟩

end Sys2Proof.Machine

namespace Sys2Proof.Machine

/-! ### The Montgomery product (R401 to R403) -/

theorem rInv_lt {n : Nat} (hpos : 0 < n) : rInv n < n := by
  rw [rInv, modExp_eq_pow_mod _ n (by norm_num)]
  exact Nat.mod_lt _ hpos

/-- `Rinv(n)` inverts the radix: `(n + 1) / 2` inverts 2, and both are raised to the 64-th
power (R401). -/
theorem two_pow_mul_rInv_modEq {n : Nat} (hodd : n % 2 = 1) : 2 ^ 64 * rInv n ≡ 1 [MOD n] := by
  have hhalf : 2 * ((n + 1) / 2) = n + 1 := by omega
  calc 2 ^ 64 * rInv n
      = 2 ^ 64 * (((n + 1) / 2) ^ 64 % n) := by rw [rInv, modExp_eq_pow_mod _ n (by norm_num)]
    _ ≡ 2 ^ 64 * ((n + 1) / 2) ^ 64 [MOD n] := (Nat.mod_modEq _ n).mul_left _
    _ = (n + 1) ^ 64 := by rw [← mul_pow, hhalf]
    _ ≡ 1 ^ 64 [MOD n] := Nat.add_modEq_left.pow 64
    _ = 1 := one_pow 64

theorem montProd_lt (a b : Nat) {n : Nat} (hpos : 0 < n) : montProd a b n < n := Nat.mod_lt _ hpos

/-- The radix times the Montgomery product is the product (R401). -/
theorem two_pow_mul_montProd_modEq (a b : Nat) {n : Nat} (hodd : n % 2 = 1) :
    2 ^ 64 * montProd a b n ≡ a * b [MOD n] :=
  calc 2 ^ 64 * montProd a b n
      ≡ 2 ^ 64 * (a * b * rInv n) [MOD n] := (Nat.mod_modEq _ n).mul_left _
    _ = a * b * (2 ^ 64 * rInv n) := Nat.mul_left_comm ..
    _ ≡ a * b * 1 [MOD n] := (two_pow_mul_rInv_modEq hodd).mul_left _
    _ = a * b := Nat.mul_one _

/-- Reduced numbers with the same multiple by the radix are equal: the radix cancels (R401). -/
theorem eq_of_two_pow_mul_modEq {n v w : Nat} (hodd : n % 2 = 1) (hv : v < n) (hw : w < n)
    (h : 2 ^ 64 * v ≡ 2 ^ 64 * w [MOD n]) : v = w := by
  have hcop : n.Coprime (2 ^ 64) := (Nat.coprime_two_right.2 (Nat.odd_iff.2 hodd)).pow_right 64
  exact (Nat.ModEq.cancel_left_of_coprime hcop h).eq_of_lt_of_lt hv hw

/-- What the Montgomery product is: the one reduced number whose multiple by the radix is the
product (R401). -/
theorem montProd_eq_of_modEq {n a b v : Nat} (hodd : n % 2 = 1) (hv : v < n)
    (h : 2 ^ 64 * v ≡ a * b [MOD n]) : montProd a b n = v :=
  eq_of_two_pow_mul_modEq hodd (montProd_lt a b (by omega)) hv
    ((two_pow_mul_montProd_modEq a b hodd).trans h.symm)

/-- `Rinv(n)` is the one inverse of the radix in `[0, n)` (R401). -/
theorem eq_rInv_iff {n r : Nat} (hodd : n % 2 = 1) (h3 : 3 ≤ n) :
    (r < n ∧ 2 ^ 64 * r % n = 1) ↔ r = rInv n := by
  have hinv := two_pow_mul_rInv_modEq hodd
  have hone : 1 % n = 1 := Nat.mod_eq_of_lt (by omega)
  constructor
  · rintro ⟨hlt, hr⟩
    exact eq_of_two_pow_mul_modEq hodd hlt (rInv_lt (by omega))
      (hr.trans (hone.symm.trans hinv.symm))
  · rintro rfl
    exact ⟨rInv_lt (by omega), Eq.trans hinv hone⟩

/-- Settles O6: square-and-multiply gives the power, and a power by 0 is 1. -/
theorem modExpIsThePowerModN : Obligations.ModExpIsThePowerModN := by
  intro b e n _ h3 _ he
  refine ⟨modExp_eq_pow_mod b n he, ?_⟩
  rw [modExp_eq_pow_mod b n (by norm_num), pow_zero, Nat.mod_eq_of_lt (by omega)]

/-- Settles O7: the radix cancels modulo an odd number, so it has one inverse. -/
theorem montgomeryProductUsesTheInverseOfR : Obligations.MontgomeryProductUsesTheInverseOfR :=
  fun _ hodd h3 =>
    ⟨fun _ => eq_rInv_iff hodd h3, fun a b _ _ => ⟨rfl, montProd_lt a b (by omega)⟩⟩

/-- Settles O9, each product by its multiple by the radix. -/
theorem montgomeryDomainIsMultiplicative : Obligations.MontgomeryDomainIsMultiplicative := by
  intro n x y hodd h3 _ _
  have hlt (v : Nat) : v % n < n := Nat.mod_lt v (by omega)
  have hred (v : Nat) : v % n ≡ v [MOD n] := Nat.mod_modEq v n
  refine ⟨montProd_eq_of_modEq hodd (hlt _) ?_, by rw [montProd, Nat.mul_one],
    montProd_eq_of_modEq hodd (hlt _) ?_⟩
  · calc 2 ^ 64 * (x * 2 ^ 64 % n)
        ≡ 2 ^ 64 * (x * 2 ^ 64) [MOD n] := (hred _).mul_left _
      _ = x * (2 ^ 64) ^ 2 := by ring
      _ ≡ x * ((2 ^ 64) ^ 2 % n) [MOD n] := (hred _).symm.mul_left _
  · calc 2 ^ 64 * (x * y % n * 2 ^ 64 % n)
        ≡ 2 ^ 64 * (x * y * 2 ^ 64) [MOD n] :=
          ((hred _).trans ((hred _).mul_right _)).mul_left _
      _ = (x * 2 ^ 64) * (y * 2 ^ 64) := by ring
      _ ≡ (x * 2 ^ 64 % n) * (y * 2 ^ 64 % n) [MOD n] := ((hred _).mul (hred _)).symm

/-! ### The word-serial reduction (R402) -/

/-- Times the negative of its inverse modulo the radix `r`, `n` is -1 modulo `r`. -/
theorem mul_neg_inverse_add_one_modEq {n ninv r : Nat} (hle : ninv ≤ r)
    (hinv : n * ninv ≡ 1 [MOD r]) : n * ((r - ninv) % r) + 1 ≡ 0 [MOD r] :=
  calc n * ((r - ninv) % r) + 1
      ≡ n * (r - ninv) + n * ninv [MOD r] := ((Nat.mod_modEq _ r).mul_left n).add hinv.symm
    _ = n * r := by rw [← Nat.mul_add, Nat.sub_add_cancel hle]
    _ ≡ 0 [MOD r] := Nat.modEq_zero_iff_dvd.2 (Nat.dvd_mul_left r n)

/-- The multiple of `n` that REDC adds clears the low word of `t`. -/
theorem redc_sum_modEq_zero {n nprime r : Nat} (t : Nat) (hneg : n * nprime + 1 ≡ 0 [MOD r]) :
    t + t % r * nprime % r * n ≡ 0 [MOD r] :=
  calc t + t % r * nprime % r * n
      ≡ t + t * nprime * n [MOD r] :=
        (((Nat.mod_modEq _ r).trans ((Nat.mod_modEq t r).mul_right nprime)).mul_right n).add_left t
    _ = t * (n * nprime + 1) := by ring
    _ ≡ t * 0 [MOD r] := hneg.mul_left t
    _ = 0 := Nat.mul_zero t

/-- The REDC sum of a product of reduced factors is below `2n` after the division by `r`. -/
theorem redc_quotient_lt {n a b m r : Nat} (hn : n < r) (ha : a < n) (hb : b < n) (hm : m < r) :
    (a * b + m * n) / r < 2 * n := by
  have hab : a * b < r * n := Nat.mul_lt_mul'' (ha.trans hn) hb
  have hmn : m * n ≤ r * n := Nat.mul_le_mul_right n hm.le
  refine Nat.div_lt_of_lt_mul ?_
  calc a * b + m * n
      < r * n + r * n := Nat.add_lt_add_of_lt_of_le hab hmn
    _ = r * (2 * n) := by ring

/-- One conditional subtraction reduces a number below `2n` modulo `n`. -/
theorem condSub_eq_mod {n u : Nat} (hu : u < 2 * n) : (if n ≤ u then u - n else u) = u % n := by
  split
  · rename_i hle
    rw [Nat.mod_eq_sub_mod hle, Nat.mod_eq_of_lt (by omega)]
  · rename_i hlt
    rw [Nat.mod_eq_of_lt (by omega)]

/-- Settles O8: the sum clears the low word, and its quotient times the radix is `a * b` modulo
`n`. -/
theorem redcGivesTheMontgomeryProduct : Obligations.RedcGivesTheMontgomeryProduct := by
  intro n ninv a b hodd _ hn hninv hinv ha hb nprime t m u
  have hzero : (t + m * n) % 2 ^ 64 = 0 :=
    redc_sum_modEq_zero t (mul_neg_inverse_add_one_modEq hninv.le hinv)
  have hu : u < 2 * n := redc_quotient_lt hn ha hb (Nat.mod_lt _ (by norm_num))
  have hmul : 2 ^ 64 * u = t + m * n := Nat.mul_div_cancel' (Nat.dvd_of_mod_eq_zero hzero)
  refine ⟨hzero, hu, ?_⟩
  rw [condSub_eq_mod hu]
  refine (montProd_eq_of_modEq hodd (Nat.mod_lt u (by omega)) ?_).symm
  calc 2 ^ 64 * (u % n)
      ≡ 2 ^ 64 * u [MOD n] := (Nat.mod_modEq u n).mul_left _
    _ = t + m * n := hmul
    _ ≡ t [MOD n] := Nat.add_mul_modulus_modEq_iff.2 rfl

/-! ### The raw modular commands (R405, R410, R412) -/

theorem modulusOK_iff {n : Nat} : modulusOK n = true ↔ n % 2 = 1 ∧ 3 ≤ n := by
  rw [modulusOK, Bool.and_eq_true, decide_eq_true_eq, decide_eq_true_eq]

/-- `MONTMUL` with operands out of range (R410). -/
theorem montmulRule_of_outOfRange {s : State}
    (h : s.op2Nat % 2 = 0 ∨ s.op2Nat < 3 ∨ s.op2Nat ≤ s.op0Nat ∨ s.op2Nat ≤ s.op1Nat) :
    montmulRule s = .raise .operandRange := by
  rcases montmulRule_cases s with he | ⟨hok, h0, h1, -⟩
  · exact he
  · have hmod := modulusOK_iff.1 hok
    omega

/-- `MONTMUL` with operands in range (R410). -/
theorem montmulRule_of_inRange {s : State} (hok : modulusOK s.op2Nat = true)
    (h0 : s.op0Nat < s.op2Nat) (h1 : s.op1Nat < s.op2Nat) : montmulRule s =
      .complete { s with res0 := BitVec.ofNat 64 (montProd s.op0Nat s.op1Nat s.op2Nat) } := by
  rw [montmulRule, if_neg (by simp [hok]), if_neg (by omega)]

/-- `MODEXP` with operands out of range (R412). -/
theorem modexpRule_of_outOfRange {s : State}
    (h : s.op2Nat % 2 = 0 ∨ s.op2Nat < 3 ∨ s.op2Nat ≤ s.op0Nat) :
    modexpRule s = .raise .operandRange := by
  rcases modexpRule_cases s with he | ⟨hok, h0, -⟩
  · exact he
  · have hmod := modulusOK_iff.1 hok
    omega

/-- `MODEXP` with operands in range (R412). -/
theorem modexpRule_of_inRange {s : State} (hok : modulusOK s.op2Nat = true)
    (h0 : s.op0Nat < s.op2Nat) : modexpRule s =
      .complete { s with res0 := BitVec.ofNat 64 (modExp s.op0Nat s.op1Nat s.op2Nat) } := by
  rw [modexpRule, if_neg (by simp [hok]), if_neg (by omega)]

/-- Settles O16, by whether the operands are in range; the inverse is `Rinv` of the modulus. -/
theorem montmulGivesTheMontgomeryProduct : Obligations.MontmulGivesTheMontgomeryProduct := by
  refine ⟨rfl, fun s h => ?_, fun s hodd h3 h0 h1 => ?_⟩
  · rw [exec_eq, ruleOf, montmulRule_of_outOfRange h]
    rfl
  · obtain ⟨hlt, hinv⟩ := (eq_rInv_iff hodd h3).2 rfl
    refine ⟨rInv s.op2.toNat, hlt, hinv, ?_⟩
    rw [exec_eq, ruleOf, montmulRule_of_inRange (modulusOK_iff.2 ⟨hodd, h3⟩) h0 h1]
    rfl

/-- Settles O17, by whether the operands are in range; the exponent has 64 bits. -/
theorem modexpGivesThePower : Obligations.ModexpGivesThePower := by
  refine ⟨rfl, fun s h => ?_, fun s hodd h3 h0 => ?_⟩
  · rw [exec_eq, ruleOf, modexpRule_of_outOfRange h]
    rfl
  · rw [exec_eq, ruleOf, modexpRule_of_inRange (modulusOK_iff.2 ⟨hodd, h3⟩) h0,
      modExp_eq_pow_mod _ _ s.op1.isLt]
    rfl

end Sys2Proof.Machine

namespace Sys2Proof.Machine

/-! ### Primality (R452) -/

/-- The factors of 2 and what is left multiply to the number. -/
theorem two_pow_twoAdic_mul (k m : Nat) : 2 ^ (twoAdic k m).1 * (twoAdic k m).2 = m := by
  induction k generalizing m with
  | zero => simp [twoAdic]
  | succ k ih =>
    rw [twoAdic]
    split
    · rw [pow_succ', mul_assoc, ih]
      omega
    · rw [pow_zero, one_mul]

/-- Modulo a prime, 1 has only the square roots 1 and -1. -/
theorem eq_one_or_eq_sub_one_of_sq_modEq {c x : Nat} (hc : c.Prime) (hx : x < c)
    (h : x * x ≡ 1 [MOD c]) : x = 1 ∨ x = c - 1 := by
  have hpos : 1 ≤ x := by
    by_contra h0
    rw [show x = 0 by omega] at h
    exact absurd (h.eq_of_lt_of_lt hc.pos hc.one_lt) (by norm_num)
  have hdvd : c ∣ (x + 1) * (x - 1) := by
    rw [← Nat.mul_self_sub_mul_self_eq x 1]
    exact (Nat.modEq_iff_dvd' (Nat.mul_le_mul hpos hpos)).1 h.symm
  rcases hc.dvd_mul.1 hdvd with h1 | h1
  · have := Nat.le_of_dvd (by omega) h1
    omega
  · have := Nat.eq_zero_of_dvd_of_lt h1 (by omega)
    omega

/-- When repeated squaring leads to 1 modulo a prime, it starts at 1 or passes through -1. -/
theorem eq_one_or_reachesMinusOne {c : Nat} (hc : c.Prime) (k : Nat) {x : Nat} (hx : x < c)
    (h : x ^ 2 ^ k ≡ 1 [MOD c]) : x = 1 ∨ reachesMinusOne c k x = true := by
  induction k generalizing x with
  | zero =>
    rw [pow_zero, pow_one] at h
    exact .inl (h.eq_of_lt_of_lt hx hc.one_lt)
  | succ k ih =>
    have hsq : (x * x % c) ^ 2 ^ k ≡ 1 [MOD c] :=
      calc (x * x % c) ^ 2 ^ k
          ≡ (x * x) ^ 2 ^ k [MOD c] := (Nat.mod_modEq _ c).pow _
        _ = x ^ 2 ^ (k + 1) := by rw [← pow_two, ← pow_mul, ← pow_succ']
        _ ≡ 1 [MOD c] := h
    rw [reachesMinusOne, Bool.or_eq_true, decide_eq_true_eq]
    rcases ih (Nat.mod_lt _ hc.pos) hsq with h1 | h1
    · have hxx : x * x ≡ 1 [MOD c] := ((Nat.mod_modEq _ c).symm.trans (h1 ▸ rfl))
      exact (eq_one_or_eq_sub_one_of_sq_modEq hc hx hxx).imp_right .inl
    · exact .inr (.inr h1)

/-- A prime below the radix passes the test to every base that it does not divide: by Fermat's
theorem the base's power by `c - 1` is 1. -/
theorem passesBase_of_prime {c a : Nat} (hc : c.Prime) (hlt : c < 2 ^ 64) (ha : ¬c ∣ a) :
    passesBase c a = true := by
  have hmul := two_pow_twoAdic_mul 64 (c - 1)
  generalize hr : twoAdic 64 (c - 1) = r at hmul
  have hle : r.2 < 2 ^ 64 := by
    have h1 : r.2 ≤ 2 ^ r.1 * r.2 := Nat.le_mul_of_pos_left _ (by positivity)
    omega
  have hfermat : ((a % c) ^ r.2 % c) ^ 2 ^ r.1 ≡ 1 [MOD c] :=
    calc ((a % c) ^ r.2 % c) ^ 2 ^ r.1
        ≡ (a ^ r.2) ^ 2 ^ r.1 [MOD c] :=
          ((Nat.mod_modEq _ c).trans ((Nat.mod_modEq a c).pow _)).pow _
      _ = a ^ (c - 1) := by rw [← pow_mul, mul_comm, hmul]
      _ ≡ 1 [MOD c] := Nat.ModEq.pow_card_sub_one_eq_one hc (hc.coprime_iff_not_dvd.2 ha).symm
  simpa [passesBase, hr, modExp_eq_pow_mod _ c hle] using
    eq_one_or_reachesMinusOne hc r.1 (Nat.mod_lt _ hc.pos) hfermat

theorem isPrime_iff {c : Nat} : isPrime c = true ↔ c.Prime := decide_eq_true_iff

theorem prime_of_mem_mrBases {a : Nat} (h : a ∈ mrBases) : a.Prime := by
  have hall : ∀ b ∈ mrBases, b.Prime := by norm_num [mrBases]
  exact hall a h

/-- The unit's test rejects no prime (R452). -/
theorem millerRabin_of_prime {c : Nat} (hc : c.Prime) (hlt : c < 2 ^ 64) :
    millerRabin c = true := by
  rw [millerRabin, if_neg (by have := hc.two_le; omega)]
  split
  · rfl
  · rename_i hmem
    rw [List.contains_iff_mem] at hmem
    refine List.all_eq_true.2 fun a ha => ?_
    have hap := prime_of_mem_mrBases ha
    have hne : c ≠ a := fun h => hmem (h ▸ ha)
    have hca : ¬c ∣ a := fun h => hne ((Nat.prime_dvd_prime_iff_eq hc hap).1 h)
    have hac : ¬a ∣ c := fun h => hne ((Nat.prime_dvd_prime_iff_eq hap hc).1 h).symm
    rw [Bool.and_eq_true, decide_eq_true_eq]
    exact ⟨fun h => hac (Nat.dvd_of_mod_eq_zero h), passesBase_of_prime hc hlt hca⟩

/-- Settles O10: a prime is equal to a base or divides none of them. -/
theorem primesPassMillerRabin : Obligations.PrimesPassMillerRabin :=
  ⟨fun _ => isPrime_iff.trans Nat.prime_def,
    fun _ hlt hc => millerRabin_of_prime (isPrime_iff.1 hc) hlt⟩

/-! ### Candidates (R453) -/

/-- The bits of a candidate (R453). -/
theorem testBit_candidate (d : DWord) (w i : Nat) : (candidate d w).testBit i =
    (decide (i = 0) || decide (i = w - 1) || (decide (i < w) && d.getLsbD i)) := by
  have hone : Nat.testBit 1 i = decide (i = 0) := by
    rw [Bool.eq_iff_iff, Nat.testBit_one_eq_true_iff_self_eq_zero, decide_eq_true_eq]
  simp only [candidate, Nat.testBit_or, Nat.testBit_mod_two_pow, Nat.testBit_two_pow, hone,
    BitVec.testBit_toNat, eq_comm (a := w - 1)]
  ac_rfl

/-- Settles O11. The low bound is odd and the power below it even, so one more is reached. -/
theorem candidateHasTopAndLowBitsSet : Obligations.CandidateHasTopAndLowBitsSet := by
  intro d w h2 _
  have hodd := candidate_mod_two d w
  have hlow := two_pow_le_candidate d w
  have hlt := candidate_lt_two_pow d (by omega : 1 ≤ w)
  have heven : 2 ^ (w - 1) % 2 = 0 := Nat.two_pow_mod_two_eq_zero.2 (by omega)
  exact ⟨testBit_candidate d w, hodd, by omega, by omega⟩

/-! ### The first accepted draw (R454, R455) -/

theorem drawState_succ' (next : Config.Source) (r : Config.RngState) (n : Nat) :
    drawState next r (n + 1) = drawState next (next r).2 n := by
  induction n with
  | zero => rfl
  | succ n ih => exact congrArg (fun q => (next q).2) ih

theorem drawAt_succ' (next : Config.Source) (r : Config.RngState) (n : Nat) :
    drawAt next r (n + 1) = drawAt next (next r).2 n :=
  congrArg (fun q => (next q).1) (drawState_succ' next r n)

/-- The loop of `SamplePrime` and `SampleX`: the value of the first accepted draw, with at most
`left` draws. -/
def firstDraw (next : Config.Source) (accept : DWord → Bool) (value : DWord → Nat) :
    Nat → Config.RngState → Option Sampled
  | 0, _ => none
  | left + 1, r =>
    if accept (next r).1 = true then some ⟨value (next r).1, left, (next r).2⟩
    else firstDraw next accept value left (next r).2

theorem samplePrime_eq_firstDraw (next : Config.Source) (w left : Nat) (r : Config.RngState) :
    samplePrime next w left r =
      firstDraw next (fun d => isPrime (candidate d w)) (candidate · w) left r := by
  induction left generalizing r with
  | zero => rfl
  | succ left ih => simp only [samplePrime, firstDraw, ih]

theorem sampleX_eq_firstDraw (next : Config.Source) (xmin xmax left : Nat) (r : Config.RngState) :
    sampleX next xmin xmax left r =
      firstDraw next (fun d => decide (d.toNat < acceptBound (xmax - xmin + 1)))
        (fun d => xmin + d.toNat % (xmax - xmin + 1)) left r := by
  induction left generalizing r with
  | zero => rfl
  | succ left ih => simp only [sampleX, firstDraw, ih, decide_eq_true_eq]

section
variable {next : Config.Source} {accept : DWord → Bool} {value : DWord → Nat}

/-- The loop gives the value of the first accepted draw and has used every draw up to it. -/
theorem firstDraw_eq_some_iff {left : Nat} {r : Config.RngState} {x : Sampled} :
    firstDraw next accept value left r = some x ↔
      ∃ k < left, accept (drawAt next r k) = true ∧
        (∀ j < k, accept (drawAt next r j) = false) ∧
        x = ⟨value (drawAt next r k), left - (k + 1), drawState next r (k + 1)⟩ := by
  induction left generalizing r with
  | zero => simp [firstDraw]
  | succ left ih =>
    rw [firstDraw, Nat.exists_lt_succ_left]
    have h0 : drawAt next r 0 = (next r).1 := rfl
    simp only [h0, Nat.forall_lt_succ_left, drawAt_succ', drawState_succ', Nat.add_sub_add_right]
    cases ha : accept (next r).1 with
    | true => simp [drawState, eq_comm (b := x)]
    | false => simpa [drawState_succ'] using ih

/-- More draws than the loop needs are left over. -/
theorem firstDraw_add {left : Nat} {r : Config.RngState} {x : Sampled} (m : Nat)
    (h : firstDraw next accept value left r = some x) :
    firstDraw next accept value (left + m) r = some { x with left := x.left + m } := by
  obtain ⟨k, hk, ha, hj, rfl⟩ := firstDraw_eq_some_iff.1 h
  exact firstDraw_eq_some_iff.2 ⟨k, by omega, ha, hj,
    congrArg (Sampled.mk _ · _) (by simp only; omega)⟩

end

/-- Settles O12, as a case of the shared loop. -/
theorem samplePrimeTakesTheFirstPrimeCandidate :
    Obligations.SamplePrimeTakesTheFirstPrimeCandidate := by
  intro next w left r x
  rw [samplePrime_eq_firstDraw]
  exact firstDraw_eq_some_iff

/-- The acceptance bound is a multiple of the size of the range (R455). -/
theorem dvd_acceptBound (n : Nat) : n ∣ acceptBound n := Nat.dvd_sub_mod _

/-- Below a multiple of `n`, every offset below `n` is the remainder of equally many numbers. -/
theorem card_filter_mod_eq {n m v xmin : Nat} (hn : n ∣ m) (hmin : xmin ≤ v) (hv : v < xmin + n) :
    ((Finset.range m).filter (fun d => xmin + d % n = v)).card = m / n := by
  have hiff : ∀ d, xmin + d % n = v ↔ d ≡ v - xmin [MOD n] := fun d => by
    rw [Nat.ModEq, Nat.mod_eq_of_lt (by omega : v - xmin < n)]
    omega
  simp only [hiff]
  rw [← Nat.count_eq_card_filter_range, Nat.count_modEq_card m (by omega),
    Nat.mod_eq_zero_of_dvd hn, if_neg (Nat.not_lt_zero _), Nat.add_zero]

/-- Settles O13: the bound is a multiple of the size of the range, so no remainder is favoured. -/
theorem sampleXIsUnbiased : Obligations.SampleXIsUnbiased := by
  intro xmin xmax _ hle _
  refine ⟨fun next left r x => ?_, fun v hmin hmax => ?_, fun d => ?_⟩
  · rw [sampleX_eq_firstDraw, firstDraw_eq_some_iff]
    simp only [decide_eq_true_eq, decide_eq_false_iff_not, not_lt]
    exact Iff.rfl
  · exact card_filter_mod_eq (dvd_acceptBound _) hmin (by omega)
  · have := Nat.mod_lt d (by omega : 0 < xmax - xmin + 1)
    omega

end Sys2Proof.Machine

namespace Sys2Proof.Machine

/-! ### Configurations and the commands that copy or clear a context (R456, R474 to R478, R526) -/

/-- Settles O14. -/
theorem configLegality : Obligations.ConfigLegality := fun wp wg xmin xmax =>
  ⟨cfgLegalGen_iff.trans (by simp only [and_assoc]),
    cfgLegalAdopt_iff.trans (by simp only [and_assoc])⟩

/-- Settles O22, by the state of the context. -/
theorem kaShareAndKaParamsCopyTheContext : Obligations.KaShareAndKaParamsCopyTheContext := by
  refine ⟨rfl, rfl, fun s h => ⟨?_, ?_⟩, fun s h => ⟨?_, ?_⟩⟩
  · rw [exec_eq, ruleOf, kaShareRule, if_pos h]
    rfl
  · rw [exec_eq, ruleOf, kaParamsRule, if_pos h]
    rfl
  · rw [exec_eq, ruleOf, kaShareRule, if_neg (by simp [h])]
    rfl
  · rw [exec_eq, ruleOf, kaParamsRule, if_neg (by simp [h])]
    rfl

/-- Settles O23: neither command has a check. -/
theorem clearCommandsZeroTheirContext : Obligations.ClearCommandsZeroTheirContext :=
  ⟨rfl, rfl, fun _ => ⟨rfl, rfl⟩⟩

/-! ### The shared secret (R470, R471) -/

/-- `KA_DERIVE` with a context and a peer share in range (R470). -/
theorem exec_kaDerive_of_share {s : State} (hr : s.kaState = .ready) (h0 : 0 < s.op0.toNat)
    (hlt : s.op0.toNat < s.kaP.toNat) :
    exec .kaDerive s = .next { s with
      res0 := BitVec.ofNat 64 (s.op0.toNat ^ s.kaX.toNat % s.kaP.toNat),
      resLen := BitVec.ofNat 8 ((s.kaWp.toNat + 7) / 8),
      pending := none, done := true, errcode := .ok, samplingTurns := 0 } := by
  have hrange : ¬(s.op0.toNat = 0 ∨ s.kaP.toNat ≤ s.op0.toNat) := by omega
  rw [exec_eq, ruleOf, kaDeriveRule, if_neg (by simp [hr]), if_neg hrange,
    modExp_eq_pow_mod _ _ s.kaX.isLt]
  rfl

/-- Settles O20, its checks in order. -/
theorem kaDeriveGivesTheSharedSecret : Obligations.KaDeriveGivesTheSharedSecret := by
  refine ⟨rfl, fun s h => ?_, fun s hr h => ?_, fun s => exec_kaDerive_of_share⟩
  · rw [exec_eq, ruleOf, kaDeriveRule, if_pos h]
    rfl
  · have hbad : s.op0Nat = 0 ∨ s.kaP.toNat ≤ s.op0Nat := h.imp_left (congrArg BitVec.toNat)
    rw [exec_eq, ruleOf, kaDeriveRule, if_neg (by simp [hr]), if_pos hbad]
    rfl

/-- The two halves of a 64-bit register, joined (R203). -/
theorem hiHalf_append_loHalf (x : DWord) : hiHalf x ++ loHalf x = x := by
  refine BitVec.eq_of_getLsbD_eq fun i hi => ?_
  rw [BitVec.getLsbD_append, hiHalf, loHalf, BitVec.getLsbD_extractLsb', BitVec.getLsbD_extractLsb']
  split
  · rename_i h
    simp [h]
  · simp [show i - 32 < 32 by omega, show 32 + (i - 32) = i by omega]

/-- The bytes of a 64-bit value (R471). -/
theorem extractLsb'_ofNat_dword {v : Nat} (hv : v < 2 ^ 64) (c : Nat) :
    (BitVec.ofNat 64 v).extractLsb' c 8 = BitVec.ofNat 8 (v / 2 ^ c) := by
  refine BitVec.eq_of_toNat_eq ?_
  rw [BitVec.extractLsb'_toNat, BitVec.toNat_ofNat, BitVec.toNat_ofNat, Nat.mod_eq_of_lt hv,
    Nat.shiftRight_eq_div_pow]

/-- `RES0` as the host reads it at its two offsets (R108, R203). -/
theorem State.readReg_res0 (s : State) :
    s.readReg (regAt 0x044) ++ s.readReg (regAt 0x040) = s.res0 := hiHalf_append_loHalf s.res0

/-- Settles O21: the secret is below `KA_P`, which fits `KA_WP` bits. -/
theorem sharedSecretBytesAreLittleEndian : Obligations.SharedSecretBytesAreLittleEndian := by
  intro s t hinv hr h0 hlt h
  rw [exec_kaDerive_of_share hr h0 hlt] at h
  injection h with h
  subst h
  have hctx := hinv.context hr
  generalize hS : s.op0.toNat ^ s.kaX.toNat % s.kaP.toNat = S
  have hSP : S < s.kaP.toNat := hS ▸ Nat.mod_lt _ (h0.trans hlt)
  have hlen : (BitVec.ofNat 8 ((s.kaWp.toNat + 7) / 8)).toNat = (s.kaWp.toNat + 7) / 8 := by
    have := hctx.width_le
    rw [BitVec.toNat_ofNat]
    omega
  refine ⟨hlen, fun i _ => ?_⟩
  rw [State.readReg_res0, extractLsb'_ofNat_dword (hSP.trans s.kaP.isLt)]
  refine ⟨rfl, fun hi => ?_⟩
  have hsmall : S < 2 ^ (8 * i) :=
    calc S < s.kaP.toNat := hSP
      _ < 2 ^ s.kaWp.toNat := hctx.lt_width
      _ ≤ 2 ^ (8 * i) := Nat.pow_le_pow_right (by omega) (by rw [hlen] at hi; omega)
  rw [Nat.div_eq_of_lt hsmall]

/-! ### The sampling commands (R460, R462) -/

/-- What `KA_GENERATE` and `KA_ADOPT` install, with the share as a power. -/
theorem State.installContext_eq (s : State) (p g : Nat) {x : Nat} (wp : BitVec 7)
    (r : Config.RngState) (hx : x < 2 ^ 64) :
    s.installContext p g x wp r = { s with
      kaP := BitVec.ofNat 64 p, kaG := BitVec.ofNat 64 g, kaX := BitVec.ofNat 64 x,
      kaA := BitVec.ofNat 64 (g ^ x % p), kaWp := wp, kaState := .ready,
      res0 := BitVec.ofNat 64 p, res1 := BitVec.ofNat 64 g, res2 := BitVec.ofNat 64 (g ^ x % p),
      rng := r } := by
  rw [State.installContext, modExp_eq_pow_mod g p hx]

section
variable {next : Config.Source} {s : State}

theorem kaGenerateRule_of_none (hl : cfgLegalGen s.wp s.wg s.xmin s.xmax = true)
    (h : sampleGenerate next s.wp s.wg s.xmin s.xmax s.drawsAllowed s.rng = none) :
    kaGenerateRule next s = .drawing := by
  rw [kaGenerateRule, if_neg (by simp [hl]), h]

theorem kaGenerateRule_of_some (hl : cfgLegalGen s.wp s.wg s.xmin s.xmax = true) {d : Generated}
    (h : sampleGenerate next s.wp s.wg s.xmin s.xmax s.drawsAllowed s.rng = some d) :
    kaGenerateRule next s = .complete (s.installContext d.p d.g d.x s.cfgWp d.rng) := by
  rw [kaGenerateRule, if_neg (by simp [hl]), h]

theorem kaAdoptRule_of_none (hl : cfgLegalAdopt s.wp s.xmin s.xmax = true) (ha : adoptOk s)
    (h : sampleX next s.xmin s.xmax s.drawsAllowed s.rng = none) :
    kaAdoptRule next s = .drawing := by
  obtain ⟨hp1, hg1, hgp, hodd, hlt⟩ := ha
  rw [kaAdoptRule, if_neg (by simp [hl]), if_neg (by omega), if_neg (by omega),
    if_neg (by omega), h]

theorem kaAdoptRule_of_some (hl : cfgLegalAdopt s.wp s.xmin s.xmax = true) (ha : adoptOk s)
    {d : Sampled} (h : sampleX next s.xmin s.xmax s.drawsAllowed s.rng = some d) :
    kaAdoptRule next s =
      .complete (s.installContext s.op2Nat s.op0Nat d.value s.cfgWp d.rng) := by
  obtain ⟨hp1, hg1, hgp, hodd, hlt⟩ := ha
  rw [kaAdoptRule, if_neg (by simp [hl]), if_neg (by omega), if_neg (by omega),
    if_neg (by omega), h]

/-- `KA_ADOPT` of parameters that fail a check (R462). -/
theorem kaAdoptRule_of_badParameters (hl : cfgLegalAdopt s.wp s.xmin s.xmax = true)
    (h : s.op2Nat ≤ 1 ∨ s.op0Nat ≤ 1 ∨ s.op2Nat ≤ s.op0Nat ∨ s.op2Nat % 2 = 0 ∨
      2 ^ s.wp ≤ s.op2Nat) : kaAdoptRule next s = .raise .invalidParameters := by
  rw [kaAdoptRule, if_neg (by simp [hl])]
  split
  · rfl
  · split
    · rfl
    · rw [if_pos (by omega)]

end

/-- `KA_GENERATE`'s draws, put together (R457). -/
theorem sampleGenerate_of_samples {next : Config.Source} {wp wg xmin xmax left : Nat}
    {r : Config.RngState} {p g x : Sampled} (hp : samplePrime next wp left r = some p)
    (hg : samplePrime next wg p.left p.rng = some g)
    (hx : sampleX next xmin xmax g.left g.rng = some x) :
    sampleGenerate next wp wg xmin xmax left r = some ⟨p.value, g.value, x.value, x.rng⟩ := by
  simp only [sampleGenerate, hp, hg, hx]

/-- Settles O18, by whether the configuration is legal and the draws allowed give all three
values. -/
theorem kaGenerateInstallsAFreshContext : Obligations.KaGenerateInstallsAFreshContext := by
  refine ⟨rfl, fun s hl => ?_, fun s p g x hl hp hg hx => ?_, fun s hl => ?_⟩
  · rw [exec_eq, ruleOf, kaGenerateRule, if_pos hl]
    rfl
  · have hd := sampleGenerate_of_samples hp hg hx
    have hx64 := (sampleGenerate_goodParams hl s.cfgXmax.isLt hd).x_lt
    rw [exec_eq, ruleOf, kaGenerateRule_of_some hl hd, State.installContext_eq _ _ _ _ _ hx64]
    rfl
  · cases hd : sampleGenerate Config.rngNext s.cfgWp.toNat s.cfgWg.toNat s.cfgXmin.toNat
      s.cfgXmax.toNat s.drawsAllowed s.rng with
    | some d => exact .inl rfl
    | none =>
      rw [exec_eq, ruleOf, kaGenerateRule_of_none hl hd]
      exact .inr rfl

/-- Settles O19, by the checks in order and whether the draws allowed give the exponent. -/
theorem kaAdoptInstallsGivenParameters : Obligations.KaAdoptInstallsGivenParameters := by
  refine ⟨rfl, fun s hl => ?_, fun s hl hbad => ?_, fun s hl hg hgp hodd hlt => ?_⟩
  · rw [exec_eq, ruleOf, kaAdoptRule, if_pos hl]
    rfl
  · rw [exec_eq, ruleOf, kaAdoptRule_of_badParameters hl hbad]
    rfl
  · have ha : adoptOk s := ⟨hg.trans hgp, hg, hgp, hodd, hlt⟩
    refine ⟨fun x hx => ?_, ?_⟩
    · rw [exec_eq, ruleOf, kaAdoptRule_of_some hl ha hx,
        State.installContext_eq _ _ _ _ _ (ha.goodParams hl hx).x_lt, BitVec.ofNat_toNat,
        BitVec.ofNat_toNat, BitVec.setWidth_eq, BitVec.setWidth_eq]
      rfl
    · cases hx : sampleX Config.rngNext s.cfgXmin.toNat s.cfgXmax.toNat s.drawsAllowed s.rng with
      | some x => exact .inl rfl
      | none =>
        rw [exec_eq, ruleOf, kaAdoptRule_of_none hl ha hx]
        exact .inr rfl

end Sys2Proof.Machine

namespace Sys2Proof.Machine

/-! ### The context after a successful `KA_GENERATE` or `KA_ADOPT` (R480, R481) -/

/-- A turn that completes the pending command with `OK` has made the command's writes. -/
theorem exec_eq_complete_of_ok {i : Instr} {s t : State} {w : Word} (hp : s.pending = some w)
    (h : exec i s = .next t) (hn : t.pending = none) (he : t.errcode = .ok) :
    ∃ u, ruleOf i s = .complete u ∧ t = u.complete .ok := by
  rw [exec_eq] at h
  injection h with h
  subst h
  rcases ruleOf_cases i s with ⟨e, hne, hr⟩ | hr | ⟨u, -, hr⟩ <;> rw [hr] at hn he ⊢
  · exact absurd he hne
  · exact absurd (hp.symm.trans hn) nofun
  · exact ⟨u, rfl, rfl⟩

theorem kaGenerateRule_eq_complete {next : Config.Source} {s u : State}
    (h : kaGenerateRule next s = .complete u) :
    cfgLegalGen s.wp s.wg s.xmin s.xmax = true ∧
    ∃ d, sampleGenerate next s.wp s.wg s.xmin s.xmax s.drawsAllowed s.rng = some d ∧
      u = s.installContext d.p d.g d.x s.cfgWp d.rng := by
  rcases kaGenerateRule_cases next s with hr | ⟨-, -, hr⟩ | ⟨hl, d, hd, hr⟩ <;> rw [hr] at h
  · cases h
  · cases h
  · injection h with h
    exact ⟨hl, d, hd, h.symm⟩

theorem kaAdoptRule_eq_complete {next : Config.Source} {s u : State}
    (h : kaAdoptRule next s = .complete u) :
    cfgLegalAdopt s.wp s.xmin s.xmax = true ∧ adoptOk s ∧
    ∃ d, sampleX next s.xmin s.xmax s.drawsAllowed s.rng = some d ∧
      u = s.installContext s.op2Nat s.op0Nat d.value s.cfgWp d.rng := by
  rcases kaAdoptRule_cases next s with ⟨e, -, hr⟩ | ⟨-, -, -, hr⟩ | ⟨hl, ha, d, hd, hr⟩ <;>
    rw [hr] at h
  · cases h
  · cases h
  · injection h with h
    exact ⟨hl, ha, d, hd, h.symm⟩

/-- A freshly installed context of width `wp`: it is in `Ready`, satisfies R121, and its public part
stands in the results (R460, R462). -/
structure State.Fresh (t : State) (wp : BitVec 7) : Prop where
  ready : t.kaState = .ready
  contextOk : t.ContextOk
  width : t.kaWp = wp
  res0 : t.res0 = t.kaP
  res1 : t.res1 = t.kaG
  res2 : t.res2 = t.kaA

theorem State.fresh_installContext (s : State) {p g x : Nat} {wp : BitVec 7} (r : Config.RngState)
    (h : GoodParams p g x wp.toNat) : ((s.installContext p g x wp r).complete .ok).Fresh wp :=
  have hk : ((s.installContext p g x wp r).complete .ok).KaOk :=
    (s.kaOk_installContext r h).congr rfl
  ⟨rfl, hk.1 rfl, rfl, rfl, rfl, rfl⟩

/-- What a successful `KA_GENERATE` leaves: a fresh context of primes, with the exponent in the
configured range (R481). -/
theorem kaGenerate_ok {s t : State} {w : Word} (hp : s.pending = some w)
    (h : exec .kaGenerate s = .next t) (hn : t.pending = none) (he : t.errcode = .ok) :
    t.Fresh s.cfgWp ∧ t.kaP.toNat.Prime ∧ t.kaG.toNat.Prime ∧
    s.cfgXmin.toNat ≤ t.kaX.toNat ∧ t.kaX.toNat ≤ s.cfgXmax.toNat := by
  obtain ⟨u, hr, rfl⟩ := exec_eq_complete_of_ok hp h hn he
  obtain ⟨hl, d, hd, rfl⟩ := kaGenerateRule_eq_complete hr
  have hgood := sampleGenerate_goodParams hl s.cfgXmax.isLt hd
  obtain ⟨-, -, -, -, hxle⟩ := cfgLegalGen_iff.1 hl
  obtain ⟨p, g, x, hsp, hsg, hsx, rfl⟩ := sampleGenerate_eq_some hd
  obtain ⟨-, -, hpp⟩ := samplePrime_candidate hsp
  obtain ⟨-, -, hgp⟩ := samplePrime_candidate hsg
  obtain ⟨hx1, hx2⟩ := sampleX_mem hxle hsx
  have hp64 : p.value < 2 ^ 64 :=
    hgood.lt_width.trans_le (Nat.pow_le_pow_right (by norm_num) hgood.width_le)
  refine ⟨s.fresh_installContext _ hgood, ?_⟩
  simp only [State.complete_kaP, State.complete_kaG, State.complete_kaX, State.installContext_kaP,
    State.installContext_kaG, State.installContext_kaX, BitVec.toNat_ofNat,
    Nat.mod_eq_of_lt hp64, Nat.mod_eq_of_lt (hgood.g_lt.trans hp64), Nat.mod_eq_of_lt hgood.x_lt]
  exact ⟨isPrime_iff.1 hpp, isPrime_iff.1 hgp, hx1, hx2⟩

/-- What a successful `KA_ADOPT` leaves: a fresh context of the given parameters (R462). -/
theorem kaAdopt_ok {s t : State} {w : Word} (hp : s.pending = some w)
    (h : exec .kaAdopt s = .next t) (hn : t.pending = none) (he : t.errcode = .ok) :
    t.Fresh s.cfgWp ∧ t.kaP = s.op2 ∧ t.kaG = s.op0 := by
  obtain ⟨u, hr, rfl⟩ := exec_eq_complete_of_ok hp h hn he
  obtain ⟨hl, ha, d, hd, rfl⟩ := kaAdoptRule_eq_complete hr
  exact ⟨s.fresh_installContext _ (ha.goodParams hl hd), by simp, by simp⟩

/-- Settles O27. -/
theorem generateGivesPrimesAndTheShare : Obligations.GenerateGivesPrimesAndTheShare := by
  intro s t w hp h hn he
  obtain ⟨hfresh, hpp, hgp, hx1, hx2⟩ := kaGenerate_ok hp h hn he
  have hctx := hfresh.contextOk
  exact ⟨hpp, hctx.one_lt_g, hctx.g_lt, hctx.share, hx1, hx2, hgp⟩

/-- A share of a unit whose modulus is prime is not 0, so its peer takes it (R470). -/
theorem State.ContextOk.share_pos {s : State} (h : s.ContextOk) (hp : s.kaP.toNat.Prime) :
    0 < s.kaA.toNat := by
  rw [h.share, Nat.pos_iff_ne_zero]
  intro h0
  have hdvd : s.kaP.toNat ∣ s.kaG.toNat := hp.dvd_of_dvd_pow (Nat.dvd_of_mod_eq_zero h0)
  have hle := Nat.le_of_dvd (by have := h.one_lt_g; omega) hdvd
  have hlt := h.g_lt
  omega

theorem State.ContextOk.share_lt {s : State} (h : s.ContextOk) : s.kaA.toNat < s.kaP.toNat := by
  rw [h.share]
  exact Nat.mod_lt _ (by have := h.three_le; omega)

/-- `(g^y)^x = (g^x)^y mod p` (R480). -/
theorem pow_mod_pow_mod_comm (g x y p : Nat) : (g ^ y % p) ^ x % p = (g ^ x % p) ^ y % p := by
  rw [← Nat.pow_mod, ← Nat.pow_mod, ← pow_mul, ← pow_mul, mul_comm]

/-- Settles O28: both units hold the same prime and generator, so each share is in the other's range
and the two powers agree. -/
theorem bothPartiesDeriveTheSameSecret : Obligations.BothPartiesDeriveTheSameSecret := by
  intro sI tI sR tR uI uR wI wR hpI hI hnI heI hop0 hop2 hpR hR hnR heR
    hIst hIp hIx hIw hRst hRp hRx hRw hIop hRop
  obtain ⟨fI, hprime, -⟩ := kaGenerate_ok hpI hI hnI heI
  obtain ⟨fR, hP, hG⟩ := kaAdopt_ok hpR hR hnR heR
  rw [hop2, fI.res0] at hP
  rw [hop0, fI.res1] at hG
  rw [fR.res2] at hIop
  rw [fI.res2] at hRop
  have cI := fI.contextOk
  have cR := fR.contextOk
  have hprimeR : tR.kaP.toNat.Prime := hP ▸ hprime
  have hdI := exec_kaDerive_of_share (s := uI) (hIst.trans fI.ready)
    (hIop ▸ cR.share_pos hprimeR) (by rw [hIop, hIp, ← hP]; exact cR.share_lt)
  have hdR := exec_kaDerive_of_share (s := uR) (hRst.trans fR.ready)
    (hRop ▸ cI.share_pos hprime) (by rw [hRop, hRp, hP]; exact cI.share_lt)
  refine ⟨_, _, hdI, hdR, rfl, rfl, ?_, fun hw => ?_⟩
  · simp only [hIop, hIx, hIp, hRop, hRx, hRp, cI.share, cR.share, hP, hG]
    rw [pow_mod_pow_mod_comm]
  · simp only [hIw, hRw, fI.width, fR.width, hw]

/-! ### What changes the context (R450) -/

/-- A command's writes leave the context alone, or the command is one of the three that change it. -/
theorem CommandWrites.kaFields_cases {s u : State} {i : Instr} (h : CommandWrites s i u) :
    u.kaFields = s.kaFields ∨ ((i = .kaGenerate ∨ i = .kaAdopt) ∧ u.kaState = .ready) ∨
    (i = .kaClear ∧ u.kaState = .empty) := by
  cases h with
  | context hi r hp => exact .inr (.inl ⟨hi, rfl⟩)
  | clearContext => exact .inr (.inr ⟨rfl, rfl⟩)
  | _ => exact .inl rfl

/-- A host write does not reach the context (R119). -/
theorem State.hostWrite_kaFields (s : State) (off : Nat) (w : Width) (v : Word) :
    (s.hostWrite off w v).kaFields = s.kaFields := by
  rcases s.hostWrite_cases off w v with he | he | ⟨-, -, -, he⟩ | ⟨-, -, -, he⟩ <;> rw [he]
  · rfl
  · rfl
  · obtain ⟨-, -, -, -, h1, h2, h3, h4, h5, h6, -⟩ := s.writeReg_frame v (regAt off)
    show (s.writeReg v (regAt off)).kaFields = s.kaFields
    simp only [State.kaFields, h1, h2, h3, h4, h5, h6]
  · rfl

/-- A turn of the engine that changes the context completes one of its three commands with `OK`. -/
theorem engineTurn_kaFields_ne {s t : State} (h : engineTurn s = .next t)
    (hne : t.kaFields ≠ s.kaFields) : t.pending = none ∧ t.errcode = .ok ∧
    ((s.pending = some (encode .kaGenerate) ∧ t.kaState = .ready) ∨
     (s.pending = some (encode .kaAdopt) ∧ t.kaState = .ready) ∨
     (s.pending = some (encode .kaClear) ∧ t.kaState = .empty)) := by
  rcases engineTurn_cases h with ⟨-, rfl⟩ | ⟨i, hi, rfl⟩ | ⟨w, -, rfl⟩
  · exact absurd rfl hne
  · rcases finish_ruleOf_cases i s with ⟨e, -, he⟩ | he | ⟨u, hu, he⟩ <;> rw [he] at hne ⊢
    · exact absurd rfl hne
    · exact absurd rfl hne
    · refine ⟨rfl, rfl, ?_⟩
      rcases hu.kaFields_cases with heq | ⟨rfl | rfl, hr⟩ | ⟨rfl, hc⟩
      · exact absurd heq hne
      · exact .inl ⟨hi, hr⟩
      · exact .inr (.inl ⟨hi, hr⟩)
      · exact .inr (.inr ⟨hi, hc⟩)
  · exact absurd rfl hne

/-- Settles O29, one case per event. -/
theorem contextChangesOnlyByItsCommands : Obligations.ContextChangesOnlyByItsCommands := by
  intro s t hstep hne
  have hne : t.kaFields ≠ s.kaFields := by
    simpa only [State.kaFields, ne_eq, Prod.mk.injEq] using hne
  rcases step_cases hstep with ⟨rest, hi, rfl⟩ | ⟨rest, off, w, -, rfl⟩ |
    ⟨rest, off, w, v, -, -, rfl⟩ | ⟨rest, hi, ht⟩
  · exact .inl ⟨rest, hi, rfl⟩
  · rw [State.hostRead_frame] at hne
    exact absurd rfl hne
  · exact absurd (State.hostWrite_kaFields _ _ _ _) hne
  · have hi' : s.inputs = [] ∨ ∃ rest : List Input, s.inputs = .engine :: rest :=
      hi.imp And.left fun h => ⟨rest, h⟩
    exact .inr ⟨hi', engineTurn_kaFields_ne (s := { s with inputs := rest }) ht hne⟩

/-! ### Sampling over the turns of the engine (R458, R716) -/

/-- More draws than `SamplePrime` needs are left over. -/
theorem samplePrime_add {next : Config.Source} {w left : Nat} {r : Config.RngState} {x : Sampled}
    (m : Nat) (h : samplePrime next w left r = some x) :
    samplePrime next w (left + m) r = some { x with left := x.left + m } := by
  rw [samplePrime_eq_firstDraw] at h ⊢
  exact firstDraw_add m h

/-- More draws than `SampleX` needs are left over. -/
theorem sampleX_add {next : Config.Source} {xmin xmax left : Nat} {r : Config.RngState}
    {x : Sampled} (m : Nat) (h : sampleX next xmin xmax left r = some x) :
    sampleX next xmin xmax (left + m) r = some { x with left := x.left + m } := by
  rw [sampleX_eq_firstDraw] at h ⊢
  exact firstDraw_add m h

/-- More draws than `KA_GENERATE` needs change nothing of what it samples. -/
theorem sampleGenerate_add {next : Config.Source} {wp wg xmin xmax left : Nat}
    {r : Config.RngState} {d : Generated} (m : Nat)
    (h : sampleGenerate next wp wg xmin xmax left r = some d) :
    sampleGenerate next wp wg xmin xmax (left + m) r = some d := by
  obtain ⟨p, g, x, hp, hg, hx, rfl⟩ := sampleGenerate_eq_some h
  exact (sampleGenerate_of_samples (samplePrime_add m hp) (samplePrime_add m hg)
    (sampleX_add m hx) :)

/-- The state with `n` turns spent drawing (log entry 5). -/
def State.withTurns (s : State) (n : Nat) : State := { s with samplingTurns := n }

theorem State.drawsAllowed_withTurns (s : State) (n : Nat) :
    (s.withTurns n).drawsAllowed = (n + 1) * Config.drawsPerTurn := rfl

theorem core_run_succ {s t : State} (h : step s = .next t) (n : Nat) :
    Sys2Proof.core.run (n + 1) s = Sys2Proof.core.run n t := by
  have h' : Sys2Proof.core.step s = .next t := h
  simp only [Host.Core.run, h']

/-- With no inputs a step performs the pending command. -/
theorem step_of_pending {s : State} {i : Instr} (hi : s.inputs = [])
    (hp : s.pending = some (encode i)) : step s = .next (s.finish (ruleOf i s)) := by
  rw [step_of_inputs_nil hi, engineTurn_of_decode hp (decode_encode i), exec_eq]

/-- How the turns of a sampling command depend on its draws: a turn that has enough draws completes
the command, any other leaves it drawing, and more draws than enough are enough. -/
structure SamplesBy (i : Instr) (s : State) (enough : Nat → Prop) : Prop where
  mono : ∀ left m, enough left → enough (left + m)
  completes : ∀ k, enough (s.withTurns k).drawsAllowed →
    ∃ u, ruleOf i (s.withTurns k) = .complete u
  draws : ∀ k, ¬enough (s.withTurns k).drawsAllowed → ruleOf i (s.withTurns k) = .drawing

section
variable {s : State} {i : Instr} {enough : Nat → Prop}

/-- A turn without enough draws only counts itself. -/
theorem SamplesBy.step_of_not_enough (h : SamplesBy i s enough) (hi : s.inputs = [])
    (hp : s.pending = some (encode i)) {k : Nat} (hk : ¬enough (s.withTurns k).drawsAllowed) :
    step (s.withTurns k) = .next (s.withTurns (k + 1)) := by
  rw [step_of_pending (s := s.withTurns k) hi hp, h.draws k hk]
  rfl

/-- While no number of draws is enough, the command stays pending. -/
theorem SamplesBy.run_of_never_enough (h : SamplesBy i s enough) (hi : s.inputs = [])
    (hp : s.pending = some (encode i)) (hnone : ∀ left, ¬enough left) (n k : Nat) :
    Sys2Proof.core.run n (s.withTurns k) = .next (s.withTurns (k + n)) := by
  induction n generalizing k with
  | zero => rfl
  | succ n ih =>
    rw [core_run_succ (h.step_of_not_enough hi hp (hnone _)), ih, Nat.add_right_comm, Nat.add_assoc]

/-- When a turn to come has enough draws, that turn or one before it completes the command. -/
theorem SamplesBy.run_completes (h : SamplesBy i s enough) (hi : s.inputs = [])
    (hp : s.pending = some (encode i)) (n : Nat) {k : Nat}
    (hk : enough (s.withTurns (k + n)).drawsAllowed) :
    ∃ (m : Nat) (t : State), Sys2Proof.core.run m (s.withTurns k) = .next t ∧ t.pending = none := by
  by_cases hnow : enough (s.withTurns k).drawsAllowed
  · obtain ⟨u, hu⟩ := h.completes k hnow
    have hstep := step_of_pending (s := s.withTurns k) hi hp
    rw [hu] at hstep
    exact ⟨1, u.complete .ok, core_run_succ hstep 0, rfl⟩
  · cases n with
    | zero => exact absurd hk hnow
    | succ n =>
      obtain ⟨m, t, hm, ht⟩ := h.run_completes hi hp n (k := k + 1) (by rwa [Nat.add_right_comm])
      exact ⟨m + 1, t, (core_run_succ (h.step_of_not_enough hi hp hnow) m).trans hm, ht⟩

/-- Left to the engine, a sampling command completes exactly when some number of draws is enough. -/
theorem SamplesBy.completes_iff (h : SamplesBy i s enough) (hi : s.inputs = [])
    (hp : s.pending = some (encode i)) :
    (∃ (n : Nat) (t : State), Sys2Proof.core.run n s = .next t ∧ t.pending = none) ↔
      ∃ left, enough left := by
  have hs : s.withTurns s.samplingTurns = s := rfl
  constructor
  · rintro ⟨n, t, hrun, ht⟩
    by_contra hnone
    have hstay := h.run_of_never_enough hi hp (not_exists.1 hnone) n s.samplingTurns
    rw [hs, hrun] at hstay
    injection hstay with hstay
    subst hstay
    exact absurd (hp.symm.trans ht) nofun
  · rintro ⟨left, hleft⟩
    have hle : left ≤ (s.withTurns (s.samplingTurns + left)).drawsAllowed := by
      rw [State.drawsAllowed_withTurns, Config.drawsPerTurn]
      omega
    obtain ⟨m, hm⟩ := Nat.exists_eq_add_of_le hle
    exact h.run_completes hi hp left (hm ▸ h.mono left m hleft)

end

/-- `KA_GENERATE` with a legal configuration draws until its samplers have all three values. -/
theorem samplesBy_kaGenerate {s : State} (hl : cfgLegalGen s.wp s.wg s.xmin s.xmax = true) :
    SamplesBy .kaGenerate s fun left =>
      (sampleGenerate Config.rngNext s.wp s.wg s.xmin s.xmax left s.rng).isSome = true where
  mono left m h := by
    obtain ⟨d, hd⟩ := Option.isSome_iff_exists.1 h
    rw [sampleGenerate_add m hd]
    rfl
  completes k h := by
    obtain ⟨d, hd⟩ := Option.isSome_iff_exists.1 h
    exact ⟨_, kaGenerateRule_of_some (s := s.withTurns k) hl hd⟩
  draws k h := kaGenerateRule_of_none (s := s.withTurns k) hl (Option.not_isSome_iff_eq_none.1 h)

/-- `KA_ADOPT` of good parameters draws until `SampleX` has the exponent. -/
theorem samplesBy_kaAdopt {s : State} (hl : cfgLegalAdopt s.wp s.xmin s.xmax = true)
    (ha : adoptOk s) :
    SamplesBy .kaAdopt s fun left =>
      (sampleX Config.rngNext s.xmin s.xmax left s.rng).isSome = true where
  mono left m h := by
    obtain ⟨d, hd⟩ := Option.isSome_iff_exists.1 h
    rw [sampleX_add m hd]
    rfl
  completes k h := by
    obtain ⟨d, hd⟩ := Option.isSome_iff_exists.1 h
    exact ⟨_, kaAdoptRule_of_some (s := s.withTurns k) hl ha hd⟩
  draws k h := kaAdoptRule_of_none (s := s.withTurns k) hl ha (Option.not_isSome_iff_eq_none.1 h)

/-- Settles O31: both commands sample over as many turns as their draws need. -/
theorem samplingCompletesExactlyWhenItsDrawsDo :
    Obligations.SamplingCompletesExactlyWhenItsDrawsDo :=
  ⟨fun _ hi hp hl => (samplesBy_kaGenerate hl).completes_iff hi hp,
    fun _ hi hp hl hg hgp hodd hlt =>
      (samplesBy_kaAdopt hl ⟨hg.trans hgp, hg, hgp, hodd, hlt⟩).completes_iff hi hp⟩

end Sys2Proof.Machine

namespace Sys2Proof.Machine

/-! ### The Blowfish rounds (R502 to R504) -/

/-- What ends the network: the halves swapped, then `kL` mixed into the left one and `kR` into the
right one (R502). -/
def swapMix (kL kR : Word) (b : Word × Word) : Word × Word := (b.2 ^^^ kL, b.1 ^^^ kR)

theorem feistel_eq_swapMix (S : SBoxes) (ks : List Word) (kR kL : Word) (b : Word × Word) :
    feistel S ks kR kL b = swapMix kL kR (ks.foldl (bfRound S) b) := rfl

theorem swapMix_swapMix (k1 k2 : Word) (b : Word × Word) :
    swapMix k1 k2 (swapMix k2 k1 b) = b := by
  simp only [swapMix, BitVec.xor_assoc, BitVec.xor_self, BitVec.xor_zero]

/-- A round of decryption undoes the last round of encryption: the two values of `F` cancel, and the
end of the network moves back by one subkey (R504). -/
theorem bfRound_swapMix_bfRound (S : SBoxes) (k0 k1 k2 : Word) (b : Word × Word) :
    bfRound S (swapMix k2 k1 (bfRound S b k0)) k2 = swapMix k1 k0 b := by
  have hl : b.1 ^^^ k0 ^^^ k2 ^^^ k2 = b.1 ^^^ k0 := by
    rw [BitVec.xor_assoc, BitVec.xor_self, BitVec.xor_zero]
  have hr (x : Word) : b.2 ^^^ x ^^^ k1 ^^^ x = b.2 ^^^ k1 := by
    rw [BitVec.xor_assoc, BitVec.xor_comm k1, ← BitVec.xor_assoc, BitVec.xor_assoc b.2,
      BitVec.xor_self, BitVec.xor_zero]
  simp only [bfRound, swapMix, hl, hr]

/-- Settles O32: the sixteen rounds of decryption undo those of encryption, the last one first. -/
theorem decBlockUndoesEncBlock : Obligations.DecBlockUndoesEncBlock := by
  intro P S b
  simp only [decBlock, encBlock, feistel_eq_swapMix, List.foldl_cons, List.foldl_nil,
    bfRound_swapMix_bfRound, swapMix_swapMix]

/-! ### The first loop of the key schedule (R505) -/

/-- Byte `i` of the key's cyclic byte sequence (R505). -/
def cyclicByte (key : Vector Byte 56) (n i : Nat) : Byte := key[i % n]?.getD 0

/-- Four bytes of the cyclic sequence from byte `i` on, the first most significant (R505). -/
def cyclicWord (key : Vector Byte 56) (n i : Nat) : Word :=
  cyclicByte key n i ++ cyclicByte key n (i + 1) ++ cyclicByte key n (i + 2) ++
    cyclicByte key n (i + 3)

/-- A byte appended to a number that leaves room for it. -/
theorem toNat_append_byte {w : Nat} (x : BitVec w) (b : Byte) :
    (x ++ b).toNat = x.toNat * 256 + b.toNat := by
  rw [BitVec.toNat_append, ← Nat.shiftLeft_add_eq_or_of_lt b.isLt, Nat.shiftLeft_eq]

/-- The loop's multiplications by 256 put four bytes in a word, the first most significant. -/
theorem joinBytes_eq_mul_add (a b c d : Byte) :
    (((0 * 256 + a.setWidth 32) * 256 + b.setWidth 32) * 256 + c.setWidth 32) * 256 +
      d.setWidth 32 = (a ++ b ++ c ++ d : Word) := by
  apply BitVec.eq_of_toNat_eq
  simp only [toNat_append_byte]
  bv_omega

/-- The inner loop reads four bytes of the cyclic sequence and leaves the index after them. -/
theorem keyWord_mod (key : Vector Byte 56) (n i : Nat) :
    keyWord key n (i % n) = (cyclicWord key n i, (i + 4) % n) := by
  have hrange : List.range 4 = [0, 1, 2, 3] := rfl
  simp only [keyWord, hrange, List.foldl_cons, List.foldl_nil, Nat.mod_add_mod, Nat.add_assoc,
    joinBytes_eq_mul_add]
  rfl

/-- A loop over `0` to `n - 1` keeps an invariant on its counter. -/
theorem foldl_finRange_induction {α : Type} {n : Nat} {f : α → Fin n → α} {a : α}
    (inv : Nat → α → Prop) (start : inv 0 a)
    (next : ∀ (i : Fin n) (x : α), inv i x → inv (i + 1) (f x i)) :
    inv n ((List.finRange n).foldl f a) := by
  induction n with
  | zero => exact start
  | succ n ih =>
    rw [List.finRange_succ_last, List.foldl_append, List.foldl_map]
    exact next (Fin.last n) _ (ih fun i => next i.castSucc)

/-- A step of the first loop: entry `i` is mixed with the next four key bytes (R505). -/
def mixStep (key : Vector Byte 56) (n : Nat) (x : PArray × Nat) (i : Fin 18) : PArray × Nat :=
  (x.1.set i.val (x.1[i] ^^^ (keyWord key n x.2).1), (keyWord key n x.2).2)

theorem mixKey_eq_foldl_mixStep (key : Vector Byte 56) (n : Nat) (P : PArray) :
    mixKey key n P = ((List.finRange 18).foldl (mixStep key n) (P, 0)).1 := rfl

/-- What the first loop holds after `c` of its steps: the entries below `c` are mixed, and the next
key byte is number `4 * c` of the cyclic sequence. -/
def MixedUpTo (key : Vector Byte 56) (n : Nat) (P : PArray) (c : Nat) (x : PArray × Nat) : Prop :=
  x.2 = 4 * c % n ∧ ∀ (j : Nat) (hj : j < 18),
    x.1[j] = if j < c then P[j] ^^^ cyclicWord key n (4 * j) else P[j]

theorem MixedUpTo.next {key : Vector Byte 56} {n : Nat} {P : PArray} (i : Fin 18)
    (x : PArray × Nat) (h : MixedUpTo key n P i x) :
    MixedUpTo key n P (i + 1) (mixStep key n x i) := by
  obtain ⟨hk, hx⟩ := h
  rw [mixStep, hk, keyWord_mod]
  refine ⟨rfl, fun j hj => ?_⟩
  rw [Vector.getElem_set]
  rcases Nat.lt_trichotomy j i with hlt | rfl | hgt
  · rw [if_neg (by omega), if_pos (by omega), hx, if_pos hlt]
  · rw [if_pos rfl, if_pos (by omega), Fin.getElem_fin, hx, if_neg (by omega)]
  · rw [if_neg (by omega), if_neg (by omega), hx, if_neg (by omega)]

/-- Each entry after the first loop of the key schedule (R505). -/
theorem getElem_mixKey (key : Vector Byte 56) (n : Nat) (P : PArray) (j : Nat) (hj : j < 18) :
    (mixKey key n P)[j] = P[j] ^^^ cyclicWord key n (4 * j) := by
  have start : MixedUpTo key n P 0 (P, 0) := ⟨(Nat.zero_mod n).symm, fun _ _ => rfl⟩
  obtain ⟨-, hall⟩ := foldl_finRange_induction (MixedUpTo key n P) start MixedUpTo.next
  exact (hall j hj).trans (if_pos hj)

/-- Settles O33: below 56 every byte of the cyclic sequence is a key byte. -/
theorem keyIsMixedInCyclically : Obligations.KeyIsMixedInCyclically := by
  intro key n P hn hm i h
  have hbyte (j : Nat) : cyclicByte key n j = key[j % n]'(h j) := by
    rw [cyclicByte, Vector.getElem?_eq_getElem (h j), Option.getD_some]
  simp only [Fin.getElem_fin, getElem_mixKey, cyclicWord, hbyte]

/-- Settles O34: the schedule depends on the key only through its cyclic byte sequence. -/
theorem cyclicKeysGiveOneSchedule : Obligations.CyclicKeysGiveOneSchedule := by
  intro k1 k2 n1 n2 _ _ _ _ h
  have hword (i : Nat) : cyclicWord k1 n1 i = cyclicWord k2 n2 i := by
    simp only [cyclicWord, cyclicByte, h]
  have hmix : mixKey k1 n1 pInit = mixKey k2 n2 pInit :=
    Vector.ext fun j hj => by rw [getElem_mixKey, getElem_mixKey, hword]
  rw [keySchedule, hmix, keySchedule]

/-! ### Blocks in the buffer (R506, R507) -/

/-- The four bytes that were joined to a half, the most significant first (R506). -/
theorem extractLsb'_joinBytes (a b c d : Byte) :
    (a ++ b ++ c ++ d : Word).extractLsb' 24 8 = a ∧
    (a ++ b ++ c ++ d : Word).extractLsb' 16 8 = b ∧
    (a ++ b ++ c ++ d : Word).extractLsb' 8 8 = c ∧
    (a ++ b ++ c ++ d : Word).extractLsb' 0 8 = d := by
  refine ⟨?_, ?_, ?_, ?_⟩
  all_goals
    apply BitVec.eq_of_toNat_eq
    simp only [BitVec.extractLsb'_toNat, Nat.shiftRight_eq_div_pow, toNat_append_byte]
    bv_omega

/-- A byte of a block read from the buffer is the buffer's (R506). -/
theorem blockByte_readBlock (m : Memory) (n o : Nat) {j : Nat} (hj : j < 8) :
    blockByte (m.readBlock n o) j = m.byte n (o + j) := by
  obtain ⟨h0, h1, h2, h3⟩ :=
    extractLsb'_joinBytes (m.byte n o) (m.byte n (o + 1)) (m.byte n (o + 2)) (m.byte n (o + 3))
  obtain ⟨h4, h5, h6, h7⟩ := extractLsb'_joinBytes (m.byte n (o + 4)) (m.byte n (o + 5))
    (m.byte n (o + 6)) (m.byte n (o + 7))
  match j, hj with
  | 0, _ => exact h0
  | 1, _ => exact h1
  | 2, _ => exact h2
  | 3, _ => exact h3
  | 4, _ => exact h4
  | 5, _ => exact h5
  | 6, _ => exact h6
  | 7, _ => exact h7

/-- Blocks of equal bytes are equal, wherever they lie (R506). -/
theorem Memory.readBlock_eq_of_bytes {m m' : Memory} {n n' o o' : Nat}
    (h : ∀ j < 8, m.byte n (o + j) = m'.byte n' (o' + j)) :
    m.readBlock n o = m'.readBlock n' o' := by
  have h0 : m.byte n o = m'.byte n' o' := h 0 (by norm_num)
  simp only [Memory.readBlock, h0, h 1, h 2, h 3, h 4, h 5, h 6, h 7, Nat.reduceLT]

/-- The bytes of block `j` after a range of blocks with `j` in it is transformed (R507). -/
theorem Memory.byte_mapBlocks_block (f : Word × Word → Word × Word) (m : Memory) (n : Nat)
    {k count j i : Nat} (hk : k ≤ j) (hj : j < k + count) (hi : i < 8) :
    (m.mapBlocks f n k count).byte n (8 * j + i) = blockByte (f (m.readBlock n (8 * j))) i := by
  rw [Memory.byte_mapBlocks, if_pos (by omega), show (8 * j + i) / 8 = j by omega,
    show (8 * j + i) % 8 = i by omega]

/-- Each block of a transformed range is transformed alone (R507): it is what writing the new block
to the old buffer gives. -/
theorem Memory.readBlock_mapBlocks (f : Word × Word → Word × Word) (m : Memory) (n : Nat)
    {k count j : Nat} (hk : k ≤ j) (hj : j < k + count) :
    (m.mapBlocks f n k count).readBlock n (8 * j) = f (m.readBlock n (8 * j)) := by
  rw [← Memory.readBlock_writeBlock m n (8 * j) (f (m.readBlock n (8 * j)))]
  refine Memory.readBlock_congr _ _ _ _ _ fun i hi => ?_
  rw [Memory.byte_mapBlocks_block f m n hk hj hi, Memory.byte_writeBlock, if_pos (by omega),
    Nat.add_sub_cancel_left]

/-- Transforming a range of blocks and then undoing it restores every byte (R528). -/
theorem Memory.byte_mapBlocks_mapBlocks {f g : Word × Word → Word × Word}
    (hgf : ∀ b, g (f b) = b) (m : Memory) (n k count i : Nat) :
    ((m.mapBlocks f n k count).mapBlocks g n k count).byte n i = m.byte n i := by
  rw [Memory.byte_mapBlocks]
  split
  · rename_i hin
    obtain ⟨hk, hlt⟩ := hin
    rw [Memory.readBlock_mapBlocks f m n hk hlt, hgf,
      blockByte_readBlock m n _ (Nat.mod_lt i (by norm_num)), Nat.div_add_mod]
  · rename_i hout
    rw [Memory.byte_mapBlocks, if_neg hout]

/-! ### The cipher commands (R520 to R528) -/

/-- `BF_KEYSCHED` with a key length out of range (R520). -/
theorem bfKeyschedRule_of_badLength {s : State} (h : s.keyLen < 1 ∨ 56 < s.keyLen) :
    bfKeyschedRule s = .raise .invalidKey := if_pos h

/-- `BF_KEYSCHED` with a key length in range (R520). -/
theorem bfKeyschedRule_of_goodLength {s : State} (hmin : 1 ≤ s.keyLen) (hmax : s.keyLen ≤ 56) :
    bfKeyschedRule s = .complete (s.installSchedule (keySchedule s.key s.keyLen)) := by
  rw [bfKeyschedRule, if_neg (not_or.2 ⟨not_lt.2 hmin, not_lt.2 hmax⟩)]

/-- Settles O24, by whether the key length is in range. -/
theorem bfKeyschedInstallsTheSchedule : Obligations.BfKeyschedInstallsTheSchedule := by
  refine ⟨rfl, fun s h => ?_, fun s hmin hmax => ?_⟩
  · rw [exec_eq, ruleOf, bfKeyschedRule_of_badLength h]
    rfl
  · rw [exec_eq, ruleOf, bfKeyschedRule_of_goodLength hmin hmax]
    generalize keySchedule s.key s.keyLen = schedule
    rfl

/-- Command `i` applies the block function `f` with the schedule held (R522, R524). -/
def CiphersBy (i : Instr) (f : PArray → SBoxes → Word × Word → Word × Word) : Prop :=
  ∀ s, ruleOf i s = bfCryptRule f s

theorem ciphersBy_bfEncrypt : CiphersBy .bfEncrypt encBlock := fun _ => rfl

theorem ciphersBy_bfDecrypt : CiphersBy .bfDecrypt decBlock := fun _ => rfl

/-- What a cipher command needs to end with `OK` (R522). -/
structure CipherOk (s : State) : Prop where
  keyed : s.bfKeyed = true
  wholeBlocks : s.bfLen.toNat % 8 = 0
  le_bufBytes : s.bfLen.toNat ≤ 1024

section
variable {i : Instr} {f : PArray → SBoxes → Word × Word → Word × Word} {s : State}

theorem CiphersBy.exec_of_unkeyed (hi : CiphersBy i f) (h : s.bfKeyed = false) :
    exec i s = .next (s.complete .cipherFailure) := by
  rw [exec_eq, hi s, bfCryptRule, if_pos h, State.finish_raise]

theorem CiphersBy.exec_of_partBlock (hi : CiphersBy i f) (hk : s.bfKeyed = true)
    (h : s.bfLen.toNat % 8 ≠ 0) : exec i s = .next (s.complete .invalidBlockSize) := by
  rw [exec_eq, hi s, bfCryptRule, if_neg (by simp [hk]), if_pos h, State.finish_raise]

theorem CiphersBy.exec_of_tooLong (hi : CiphersBy i f) (hk : s.bfKeyed = true)
    (h8 : s.bfLen.toNat % 8 = 0) (h : 1024 < s.bfLen.toNat) :
    exec i s = .next (s.complete .lengthRange) := by
  rw [exec_eq, hi s, bfCryptRule, if_neg (by simp [hk]), if_neg (not_not.2 h8), if_pos h,
    State.finish_raise]

theorem CiphersBy.exec_of_cipherOk (hi : CiphersBy i f) (h : CipherOk s) :
    exec i s = .next ((s.mapBlocks (f s.bfP s.bfS) (s.bfLen.toNat / 8)).complete .ok) := by
  rw [exec_eq, hi s, bfCryptRule, if_neg (by simp [h.keyed]), if_neg (not_not.2 h.wholeBlocks),
    if_neg (not_lt.2 h.le_bufBytes), State.finish_complete]

/-- The buffer after a cipher command that ends with `OK`: its blocks and its tail (R522, R507). -/
theorem CiphersBy.exists_buf (hi : CiphersBy i f) (h : CipherOk s) :
    ∃ m : Memory,
      exec i s = .next { s with
        buf := m, pending := none, done := true, errcode := .ok, samplingTurns := 0 } ∧
      (∀ k : Nat, k < s.bfLen.toNat / 8 →
        m.readBlock s.resets (8 * k) = f s.bfP s.bfS (s.buf.readBlock s.resets (8 * k))) ∧
      (∀ j : Nat, s.bfLen.toNat ≤ j → m.byte s.resets j = s.buf.byte s.resets j) := by
  refine ⟨_, hi.exec_of_cipherOk h, fun k hk => ?_, fun j hj => ?_⟩
  · exact Memory.readBlock_mapBlocks _ _ _ (Nat.zero_le k) (by omega)
  · exact (Memory.byte_mapBlocks _ _ _ _ _ _).trans (if_neg (by omega))

/-- The bytes of a block after a cipher command that ends with `OK` (R522). -/
theorem CiphersBy.bufByte_of_exec (hi : CiphersBy i f) (h : CipherOk s) {t : State}
    (ht : exec i s = .next t) {k j : Nat} (hk : k < s.bfLen.toNat / 8) (hj : j < 8) :
    t.bufByte (8 * k + j) =
      blockByte (f s.bfP s.bfS (s.buf.readBlock s.resets (8 * k))) j := by
  rw [hi.exec_of_cipherOk h] at ht
  injection ht with ht
  subst ht
  exact Memory.byte_mapBlocks_block (f s.bfP s.bfS) s.buf s.resets (Nat.zero_le k) (by omega) hj

/-- Equal blocks under equal schedules are equal after the command, wherever they lie (R528). -/
theorem CiphersBy.bufByte_congr (hi : CiphersBy i f) {s' t t' : State} (h : CipherOk s)
    (h' : CipherOk s') (hP : s.bfP = s'.bfP) (hS : s.bfS = s'.bfS) {k k' : Nat}
    (hk : k < s.bfLen.toNat / 8) (hk' : k' < s'.bfLen.toNat / 8)
    (hsame : ∀ j < 8, s.bufByte (8 * k + j) = s'.bufByte (8 * k' + j))
    (ht : exec i s = .next t) (ht' : exec i s' = .next t') (j : Nat) (hj : j < 8) :
    t.bufByte (8 * k + j) = t'.bufByte (8 * k' + j) := by
  have hread : s.buf.readBlock s.resets (8 * k) = s'.buf.readBlock s'.resets (8 * k') :=
    Memory.readBlock_eq_of_bytes hsame
  rw [hi.bufByte_of_exec h ht hk hj, hi.bufByte_of_exec h' ht' hk' hj, hP, hS, hread]

end

/-- Settles O25, its checks in order. -/
theorem bfEncryptTransformsEachBlock : Obligations.BfEncryptTransformsEachBlock :=
  ⟨rfl, fun _ => ciphersBy_bfEncrypt.exec_of_unkeyed,
    fun _ => ciphersBy_bfEncrypt.exec_of_partBlock, fun _ => ciphersBy_bfEncrypt.exec_of_tooLong,
    fun _ hk h8 hle => ciphersBy_bfEncrypt.exists_buf ⟨hk, h8, hle⟩⟩

/-- Settles O26, its checks in order. -/
theorem bfDecryptTransformsEachBlock : Obligations.BfDecryptTransformsEachBlock :=
  ⟨rfl, fun _ => ciphersBy_bfDecrypt.exec_of_unkeyed,
    fun _ => ciphersBy_bfDecrypt.exec_of_partBlock, fun _ => ciphersBy_bfDecrypt.exec_of_tooLong,
    fun _ hk h8 hle => ciphersBy_bfDecrypt.exists_buf ⟨hk, h8, hle⟩⟩

/-- Settles O35: encryption keeps the schedule and the length, so decryption passes the same checks
and undoes each block. -/
theorem decryptRestoresWhatEncryptTransformed :
    Obligations.DecryptRestoresWhatEncryptTransformed := by
  intro s hk h8 hle
  have hs : CipherOk s := ⟨hk, h8, hle⟩
  have hu : CipherOk (((s.mapBlocks (encBlock s.bfP s.bfS) (s.bfLen.toNat / 8)).complete .ok).accept
      (encode .bfDecrypt)) := ⟨hk, h8, hle⟩
  exact ⟨_, _, ciphersBy_bfEncrypt.exec_of_cipherOk hs, rfl,
    ciphersBy_bfDecrypt.exec_of_cipherOk hu, rfl,
    Memory.byte_mapBlocks_mapBlocks (decBlockUndoesEncBlock s.bfP s.bfS) _ _ _ _, rfl, rfl⟩

/-- Settles O36: a block's bytes after either command are the block function of its bytes before. -/
theorem blocksAreTransformedIndependently : Obligations.BlocksAreTransformedIndependently := by
  intro s1 s2 t1 t2 k1 k2 hkey1 hkey2 hP hS h81 hle1 h82 hle2 hk1 hk2 hsame
  have h1 : CipherOk s1 := ⟨hkey1, h81, hle1⟩
  have h2 : CipherOk s2 := ⟨hkey2, h82, hle2⟩
  exact ⟨ciphersBy_bfEncrypt.bufByte_congr h1 h2 hP hS hk1 hk2 hsame,
    ciphersBy_bfDecrypt.bufByte_congr h1 h2 hP hS hk1 hk2 hsame⟩

end Sys2Proof.Machine

namespace Sys2Proof.Machine

/-! ### `NOP` (R580) -/

/-- A set reserved bit is reported whatever the opcode (R302). -/
theorem decode_of_rsvField_ne_zero {w : Word} (h : rsvField w ≠ 0) :
    decode w = .error .reservedBits :=
  if_neg h

theorem exec_nop (s : State) : exec .nop s = .next (s.complete .ok) := rfl

/-- Completion raises the interrupt line when it is enabled (R600, R610). -/
theorem State.irq_complete (s : State) (c : ErrorCode) : (s.complete c).irq = s.ie :=
  Bool.and_true s.ie

/-- Settles O15: `NOP` is a completion, and a word with `NOP`'s opcode and a set reserved bit is an
illegal word like any other (R306). -/
theorem nopOnlyCompletes : Obligations.NopOnlyCompletes := by
  refine ⟨rfl, exec_nop, fun s t ht hie => ?_, fun s w _ hrsv hp hi => ?_⟩
  · rw [exec_nop] at ht
    injection ht with ht
    rw [← ht, State.irq_complete, hie]
  · exact illegalWordEndsIllegalCommand s w .reservedBits hp (decode_of_rsvField_ne_zero hrsv) hi

end Sys2Proof.Machine

namespace Sys2Proof.Machine

/-! ### How a turn of the engine ends a command (R600, R602) -/

/-- Only the two sampling commands can end a turn without an end of the command (R458). -/
theorem ruleOf_ne_drawing {i : Instr} (s : State) (hi : ¬(i = .kaGenerate ∨ i = .kaAdopt)) :
    ruleOf i s ≠ .drawing := by
  intro h
  cases i with
  | kaGenerate => exact hi (.inl rfl)
  | kaAdopt => exact hi (.inr rfl)
  | nop | kaClear | bfClear => cases h
  | montmul => rcases montmulRule_cases s with hr | ⟨-, -, -, hr⟩ <;> cases hr.symm.trans h
  | modexp => rcases modexpRule_cases s with hr | ⟨-, -, hr⟩ <;> cases hr.symm.trans h
  | kaDerive =>
    rcases kaDeriveRule_cases s with ⟨_, -, hr⟩ | ⟨-, -, -, hr⟩ <;> cases hr.symm.trans h
  | kaShare => rcases kaShareRule_cases s with ⟨-, hr⟩ | ⟨-, hr⟩ <;> cases hr.symm.trans h
  | kaParams => rcases kaParamsRule_cases s with ⟨-, hr⟩ | ⟨-, hr⟩ <;> cases hr.symm.trans h
  | bfKeysched => rcases bfKeyschedRule_cases s with hr | ⟨-, -, hr⟩ <;> cases hr.symm.trans h
  | bfEncrypt =>
    rcases bfCryptRule_cases encBlock s with ⟨_, -, hr⟩ | ⟨-, -, -, hr⟩ <;> cases hr.symm.trans h
  | bfDecrypt =>
    rcases bfCryptRule_cases decBlock s with ⟨_, -, hr⟩ | ⟨-, -, -, hr⟩ <;> cases hr.symm.trans h

/-- What performing a command can do: complete it with a code other than `OK` and nothing written,
leave a sampling command drawing, or complete it with `OK` after its writes. -/
theorem exec_cases {i : Instr} {s t : State} (h : exec i s = .next t) :
    (∃ e, e ≠ .ok ∧ t = s.complete e) ∨
    ((i = .kaGenerate ∨ i = .kaAdopt) ∧ t = { s with samplingTurns := s.samplingTurns + 1 }) ∨
    ∃ u, CommandWrites s i u ∧ t = u.complete .ok := by
  rw [exec_eq] at h
  injection h with h
  subst h
  rcases ruleOf_cases i s with ⟨e, he, hr⟩ | hr | ⟨u, hu, hr⟩ <;> rw [hr]
  · exact .inl ⟨e, he, rfl⟩
  · exact .inr (.inl ⟨by_contra fun hi => ruleOf_ne_drawing s hi hr, rfl⟩)
  · exact .inr (.inr ⟨u, hu, rfl⟩)

/-- The flags after a completion (R600). -/
theorem State.complete_flags (s : State) (c : ErrorCode) :
    (s.complete c).busy = false ∧ (s.complete c).done = true ∧
      (s.complete c).err = decide ((s.complete c).errcode ≠ .ok) :=
  ⟨rfl, rfl, State.err_eq _⟩

/-- Settles O37, by how the turn ends: both completions set the same flags. -/
theorem completionSetsTheFlags : Obligations.CompletionSetsTheFlags := by
  intro i s t w _ ht
  rcases exec_cases ht with ⟨e, -, rfl⟩ | hdraw | ⟨u, -, rfl⟩
  · exact .inl (s.complete_flags e)
  · exact .inr hdraw
  · exact .inl (u.complete_flags .ok)

/-- Settles O38, by how the turn ends: only a `raise` both completes the command and gives a code
other than `OK`. -/
theorem failedCommandChangesNothingElse : Obligations.FailedCommandChangesNothingElse := by
  intro i s t w hp ht hdone hcode
  rcases exec_cases ht with ⟨e, -, rfl⟩ | ⟨-, rfl⟩ | ⟨u, -, rfl⟩
  · rfl
  · exact absurd (hp.symm.trans hdone) nofun
  · exact absurd rfl hcode

/-! ### The interrupt output (R610) -/

/-- A command that ends leaves the interrupt line as `CTRL.IE` says, whatever its code (R610). -/
theorem exec_irq {i : Instr} {s t : State} {w : Word} (hp : s.pending = some w)
    (ht : exec i s = .next t) (hdone : t.pending = none) : t.irq = s.ie := by
  obtain ⟨hframe, -⟩ := exec_frame ht
  rcases completionSetsTheFlags i s t w hp ht with ⟨-, hd, -⟩ | ⟨-, rfl⟩
  · rw [State.irq, hframe.ie, hd, Bool.and_true]
  · exact absurd (hp.symm.trans hdone) nofun

/-- A write to `STATUS` is taken whether or not a command is pending (R710). -/
theorem hostAccess_writeStatus (s : State) (v : Word) :
    hostAccess s (.write 0x00C .w32 v) = .next { s.writeStatus v with response := .written } :=
  hostAccess_writeReg s (off := 0x00C) v (by decide) rfl (.inr rfl)

/-- A write to `CTRL` is taken whether or not a command is pending (R710). -/
theorem hostAccess_writeCtrl (s : State) (v : Word) :
    hostAccess s (.write 0x008 .w32 v) =
      .next { s with ie := v.getLsbD 0, response := .written } :=
  hostAccess_writeReg s (off := 0x008) v (by decide) rfl (.inr rfl)

/-- The registers through which a write reaches `IE` or `DONE` (R103, R106, R305). -/
def Reg.drivesIrq : Reg → Bool
  | .ctrl | .status | .cmd => true
  | _ => false

theorem State.writeReg_irq (s : State) (v : Word) {r : Reg} (h : r.drivesIrq = false) :
    (s.writeReg v r).irq = s.irq := by
  cases r with
  | ctrl | status | cmd => cases h
  | _ => rfl

/-- Where `CTRL`, `STATUS` and `CMD` stand in the map. -/
theorem regAt_drivesIrq {off : Nat} (h : (regAt off).drivesIrq = true) :
    off = 0x008 ∨ off = 0x00C ∨ off = 0x010 := by
  unfold regAt at h
  split at h
  case h_3 => exact .inl rfl
  case h_4 => exact .inr (.inl rfl)
  case h_5 => exact .inr (.inr rfl)
  case h_30 => split at h <;> cases h
  all_goals cases h

/-- A write that is no 32-bit write of `CTRL` or `STATUS`, nor an accepted one of `CMD`, leaves the
interrupt line as it is. -/
theorem State.hostWrite_irq (s : State) {off : Nat} {w : Width} (v : Word)
    (h : w = .w32 → off ≠ 0x008 ∧ off ≠ 0x00C ∧ (off ≠ 0x010 ∨ s.busy = true)) :
    (s.hostWrite off w v).irq = s.irq := by
  rcases s.hostWrite_cases off w v with he | he | ⟨-, hw, hb, he⟩ | ⟨-, -, -, he⟩ <;> rw [he]
  · rfl
  · rfl
  · have hr : (regAt off).drivesIrq = false := by
      obtain ⟨hctrl, hstatus, hcmd⟩ := h hw
      refine Bool.eq_false_iff.2 fun hr => ?_
      rcases regAt_drivesIrq hr with rfl | rfl | rfl
      · exact hctrl rfl
      · exact hstatus rfl
      · have hbusy : s.busy = true := hcmd.resolve_left (not_not_intro rfl)
        exact hb.elim (fun hidle => Bool.eq_false_iff.1 hidle hbusy) nofun
    exact s.writeReg_irq v hr
  · rfl

theorem State.hostRead_irq (s : State) (off : Nat) (w : Width) :
    (s.hostRead off w).irq = s.irq := by
  rw [State.hostRead_frame]
  rfl

/-- Settles O42, one lemma per kind of event that R610 speaks of. -/
theorem interruptFollowsEnableAndDone : Obligations.InterruptFollowsEnableAndDone := by
  refine ⟨fun _ => rfl, fun i s t w hp ht hdone hie => ?_, fun s t w hb ht => ?_,
    fun s t v ht => ?_, fun s t v ht => ?_, fun _ => rfl, fun s t off w ht => ?_,
    fun s t off w v hoff ht => ?_⟩
  · exact (exec_irq hp ht hdone).trans hie
  · rw [hostAccess_writeCmd_of_idle w hb] at ht
    injection ht with ht
    subst ht
    exact Bool.and_false s.ie
  · rw [hostAccess_writeStatus] at ht
    injection ht with ht
    subst ht
    exact (Bool.and_assoc ..).symm
  · rw [hostAccess_writeCtrl] at ht
    injection ht with ht
    subst ht
    rfl
  · obtain ⟨-, rfl⟩ := hostAccess_read_next ht
    exact s.hostRead_irq off.toNat w
  · obtain ⟨-, rfl⟩ := hostAccess_write_next ht
    refine s.hostWrite_irq v fun hw => ?_
    obtain ⟨hctrl, hstatus, hcmd⟩ := hoff hw
    exact ⟨by omega, by omega, hcmd.imp_left (by omega)⟩

end Sys2Proof.Machine

namespace Sys2Proof.Machine

/-! ### Reset (R700 to R705) -/

/-- Settles O57: each register holds its value of R700, and each array one value throughout. -/
theorem resetState : Obligations.ResetState := by
  refine ⟨rfl, rfl, rfl, rfl, rfl, rfl, rfl, rfl, rfl, rfl, rfl, rfl, rfl, rfl, rfl, rfl, rfl,
    fun i => Vector.getElem_replicate i.isLt, rfl, rfl, rfl, rfl, rfl, rfl,
    fun i => Vector.getElem_replicate i.isLt, fun i j => ?_, rfl, rfl, rfl, rfl, rfl⟩
  have hbox : State.reset.bfS[i] = Vector.replicate 256 0 := Vector.getElem_replicate i.isLt
  rw [hbox]
  exact Vector.getElem_replicate j.isLt

theorem step_of_inputs_reset {s : State} {rest : List Input} (h : s.inputs = .reset :: rest) :
    step s = .next (State.resetUnit { s with inputs := rest }) := by
  simp only [step, nextEvent, h]

/-- Settles O58: `resetUnit` starts from the reset state, not from the state before it. -/
theorem resetAbandonsThePendingCommand : Obligations.ResetAbandonsThePendingCommand :=
  fun _ _ hi => ⟨_, step_of_inputs_reset hi, rfl, rfl, rfl, rfl⟩

/-- Settles O59: a later reset gives a state that satisfies the invariant, and the first differs
from it in no field that the invariant speaks of. -/
theorem invariantHoldsAtReset : Obligations.InvariantHoldsAtReset :=
  have ⟨hbuf, hpending, hka, hbf, hlen⟩ := State.inv_iff.1 State.reset.inv_resetUnit
  State.inv_iff.2 ⟨hbuf, hpending, hka.congr rfl, hbf.congr rfl, hlen⟩

/-! ### A turn of the engine ends the command (R716) -/

/-- Settles O40: an illegal word completes, and so does every command that does not draw. -/
theorem otherCommandsCompleteInOneTurn : Obligations.OtherCommandsCompleteInOneTurn := by
  intro s w hp hgen hadopt hi
  cases hd : decode w with
  | error e =>
    exact ⟨_, (step_of_inputs_nil hi).trans (engineTurn_of_decode_error hp hd), rfl, rfl⟩
  | ok i =>
    obtain rfl := decode_eq_ok_iff.1 hd
    refine ⟨_, step_of_pending hi hp, ?_⟩
    rcases exec_cases (exec_eq i s) with ⟨e, -, he⟩ | ⟨rfl | rfl, -⟩ | ⟨u, -, he⟩
    · rw [he]
      exact ⟨rfl, rfl⟩
    · exact absurd rfl hgen
    · exact absurd rfl hadopt
    · rw [he]
      exact ⟨rfl, rfl⟩

/-! ### Writes while a command is pending (R710) -/

/-- Only `CTRL` and `STATUS` take a write while a command is pending. -/
theorem regAt_alwaysWritable_eq_false {off : Nat} (hctrl : off ≠ 0x008) (hstatus : off ≠ 0x00C) :
    (regAt off).alwaysWritable = false := by
  refine Bool.eq_false_iff.2 fun hw => ?_
  have hirq : (regAt off).drivesIrq = true := by
    rcases (regAt off).alwaysWritable_iff.1 hw with hr | hr <;> rw [hr] <;> rfl
  rcases regAt_drivesIrq hirq with rfl | rfl | rfl
  · exact hctrl rfl
  · exact hstatus rfl
  · cases hw

/-- Settles O45: the two registers that are always writable stand at two offsets, so a write to any
other is dropped. -/
theorem busyWritesAreDropped : Obligations.BusyWritesAreDropped := by
  refine ⟨fun s off w v hb hoff hg hctrl hstatus => ?_,
    fun s v => ⟨hostAccess_writeCtrl s v, hostAccess_writeStatus s v⟩⟩
  rw [hostAccess_write_natCast s w v hoff,
    State.hostWrite_of_busy v hb hg fun _ => regAt_alwaysWritable_eq_false hctrl hstatus]
  rfl

/-! ### Host accesses while a command is pending (R717) -/

/-- The state with the bus side of `h`: the fields that a host access can change while a command is
pending, which are the interrupt enable, two flags, and the model's own fields for the bus. -/
def State.withBusOf (s h : State) : State :=
  { s with ie := h.ie, done := h.done, ovr := h.ovr, inputs := h.inputs, response := h.response,
           freeReads := h.freeReads }

/-- The end of a turn with the bus side of `h`. -/
def CommandResult.withBusOf (h : State) : CommandResult → CommandResult
  | .raise e => .raise e
  | .complete u => .complete (u.withBusOf h)
  | .drawing => .drawing

/-- While a command is pending, a register write that is taken changes the bus side alone. -/
theorem State.writeReg_eq_withBusOf (s : State) (v : Word) {r : Reg}
    (hr : r.alwaysWritable = true) : s.writeReg v r = s.withBusOf (s.writeReg v r) := by
  rcases r.alwaysWritable_iff.1 hr with rfl | rfl <;> rfl

/-- A host access while a command is pending changes the bus side alone (R710). -/
theorem hostAccess_of_busy {s t : State} {a : Access} (hb : s.busy = true)
    (h : hostAccess s a = .next t) : t = s.withBusOf t := by
  cases a with
  | read off w =>
    obtain ⟨-, rfl⟩ := hostAccess_read_next h
    rw [State.hostRead_frame]
    rfl
  | write off w v =>
    obtain ⟨-, rfl⟩ := hostAccess_write_next h
    have hidle : s.busy ≠ false := fun hf => Bool.eq_false_iff.1 hf hb
    rcases s.hostWrite_cases off.toNat w v with he | he | ⟨-, -, hw, he⟩ | ⟨-, -, hf, -⟩
    · rw [he]
      rfl
    · rw [he]
      rfl
    · rw [he, s.writeReg_eq_withBusOf v (hw.resolve_left hidle)]
      rfl
    · exact absurd hf hidle

section
variable (s h : State)

theorem State.sameUnit_withBusOf : s.SameUnit (s.withBusOf h) := by
  constructor <;> rfl

theorem State.finish_sameUnit_withBusOf (r : CommandResult) :
    (s.finish r).SameUnit ((s.withBusOf h).finish (r.withBusOf h)) := by
  cases r <;> constructor <;> rfl

theorem State.installSchedule_withBusOf (k : PArray × SBoxes) :
    (s.withBusOf h).installSchedule k = (s.installSchedule k).withBusOf h := rfl

/-- A rule that makes a check blind to the bus side is blind to it when both outcomes are. -/
theorem ite_withBusOf {h : State} {c : Prop} [Decidable c] {a b a' b' : CommandResult}
    (ha : a' = a.withBusOf h) (hb : b' = b.withBusOf h) :
    (if c then a' else b') = (if c then a else b).withBusOf h := by
  rw [ha, hb, apply_ite (CommandResult.withBusOf h)]

theorem kaGenerateRule_withBusOf (next : Config.Source) :
    kaGenerateRule next (s.withBusOf h) = (kaGenerateRule next s).withBusOf h := by
  refine ite_withBusOf rfl ?_
  dsimp only [State.withBusOf, State.wp, State.wg, State.xmin, State.xmax, State.drawsAllowed]
  split <;> rfl

theorem kaAdoptRule_withBusOf (next : Config.Source) :
    kaAdoptRule next (s.withBusOf h) = (kaAdoptRule next s).withBusOf h := by
  refine ite_withBusOf rfl (ite_withBusOf rfl (ite_withBusOf rfl (ite_withBusOf rfl ?_)))
  dsimp only [State.withBusOf, State.xmin, State.xmax, State.drawsAllowed]
  split <;> rfl

theorem bfCryptRule_withBusOf (f : PArray → SBoxes → Word × Word → Word × Word) :
    bfCryptRule f (s.withBusOf h) = (bfCryptRule f s).withBusOf h :=
  ite_withBusOf rfl (ite_withBusOf rfl (ite_withBusOf rfl rfl))

/-- No command's checks or writes see the bus side. -/
theorem ruleOf_withBusOf (i : Instr) : ruleOf i (s.withBusOf h) = (ruleOf i s).withBusOf h := by
  cases i with
  | nop | kaClear | bfClear => rfl
  | kaShare | kaParams => exact ite_withBusOf rfl rfl
  | montmul | modexp | kaDerive => exact ite_withBusOf rfl (ite_withBusOf rfl rfl)
  | kaGenerate => exact kaGenerateRule_withBusOf s h Config.rngNext
  | kaAdopt => exact kaAdoptRule_withBusOf s h Config.rngNext
  | bfKeysched =>
    exact ite_withBusOf rfl
      (congrArg CommandResult.complete (s.installSchedule_withBusOf h (keySchedule s.key s.keyLen)))
  | bfEncrypt => exact bfCryptRule_withBusOf s h encBlock
  | bfDecrypt => exact bfCryptRule_withBusOf s h decBlock

end

/-- Settles O41: the access changes the bus side alone, which no command sees. -/
theorem resultsDoNotDependOnTiming : Obligations.ResultsDoNotDependOnTiming := by
  intro i a s s' t t' hb ha ht ht'
  obtain ⟨h, rfl⟩ : ∃ h, s' = s.withBusOf h := ⟨s', hostAccess_of_busy hb ha⟩
  rw [exec_eq] at ht
  rw [exec_eq, ruleOf_withBusOf] at ht'
  injection ht with ht
  injection ht' with ht'
  subst ht ht'
  exact ⟨s.sameUnit_withBusOf h, s.finish_sameUnit_withBusOf h (ruleOf i s)⟩

end Sys2Proof.Machine
